-- ==== Sys2Proof/Word.lean ====
section
/-! DEFINITION. The word types of the SWTD (00_scope.md R9: widths are stated at each value; every value is unsigned). -/

namespace Sys2Proof

/-- One frame byte, or the checksum: 8 bits (R9, R21). -/
abbrev Byte := BitVec 8

/-- One register of the window, or one bus data value: 32 bits (R9, R51). -/
abbrev Word := BitVec 32

/-- A byte offset in the register window, `bus_addr`: 5 bits (R43, R71). -/
abbrev Offset := BitVec 5

/-- One transaction word T = (W << 37) | (A << 32) | D: 38 bits (R70). -/
abbrev BusWord := BitVec 38

/-- One recorded pulse width, or PEAK: COUNT_WIDTH bits in the 16 bits that bound COUNT_WIDTH (R6, R21; log 6). -/
abbrev Sample := BitVec 16

end Sys2Proof
end

