-- ==== Sys2Proof/Config.lean ====
section
/-! DEFINITION. What an implementation fixes: the constants (R5), the parameters of an instance with their constraints and
defaults (R6), the internal width of `cnt` (R21), and the free values (values the spec leaves open: no body, so nothing can
be proved about which value they have). -/

namespace Sys2Proof

/-- MAX_TIMINGS, the largest number of samples one capture records (R5). -/
abbrev Config.maxTimings : Nat := 100

/-- FRAME_SAMPLES, the number of samples a valid frame consumes (R5). -/
abbrev Config.frameSamples : Nat := 41

/-- FRAME_BYTES (R5). -/
abbrev Config.frameBytes : Nat := 5

/-- FRAME_BITS = FRAME_SAMPLES - 1 (R5). -/
abbrev Config.frameBits : Nat := Config.frameSamples - 1

/-- The build-time parameters of one instance (R6), each in ticks unless said otherwise. No host write and no step changes
one; they are plain data so that every claim holds for every instance (log 1). -/
structure Params where
  /-- F_TICK, the sample-clock frequency in Hz; it enters only the defaults (R243). -/
  fTick : Nat
  /-- T_WAKE_HIGH -/
  tWakeHigh : Nat
  /-- T_START_A -/
  tStartA : Nat
  /-- T_START_B -/
  tStartB : Nat
  /-- T_RELEASE -/
  tRelease : Nat
  /-- ACK_BOUND -/
  ackBound : Nat
  /-- WAIT_BOUND -/
  waitBound : Nat
  /-- COUNT_WIDTH, in bits -/
  countWidth : Nat
  /-- DECODE_LATENCY -/
  decodeLatency : Nat
  /-- SYNC_STAGES, in flip-flops -/
  syncStages : Nat
  /-- BASE_ADDR, a platform address -/
  baseAddr : Nat
  deriving DecidableEq, Repr

/-- The constraint column of R6, with T_RELEASE ≥ SYNC_STAGES as 90_conflicts.md C7 resolves it. -/
abbrev Params.Wf (p : Params) : Prop :=
  0 < p.fTick ∧ 1 ≤ p.tWakeHigh ∧ 1 ≤ p.tStartA ∧ 1 ≤ p.tStartB ∧ 1 ≤ p.tRelease ∧ p.syncStages ≤ p.tRelease ∧
  2 ≤ p.ackBound ∧ 2 ≤ p.waitBound ∧ p.waitBound - 1 < 2 ^ p.countWidth ∧ 1 ≤ p.countWidth ∧ p.countWidth ≤ 16 ∧
  1 ≤ p.decodeLatency ∧ p.baseAddr % 32 = 0

/-- `round(num / den)`, halves up (log 3: R6 does not say how a half rounds). -/
def Config.roundDiv (num den : Nat) : Nat := (2 * num + den) / (2 * den)

/-- `ceil(num / den)`. -/
def Config.ceilDiv (num den : Nat) : Nat := (num + den - 1) / den

/-- The smallest width that holds `v`, at least 1 bit (R6 COUNT_WIDTH, R21 CNT_WIDTH). -/
def Config.widthHolding (v : Nat) : Nat := Nat.log2 v + 1

/-- The default column of R6, given the three OPEN parameters. -/
def Params.defaults (fTick waitBound baseAddr : Nat) : Params where
  fTick := fTick
  tWakeHigh := Config.ceilDiv (10 * fTick) 1000
  tStartA := Config.roundDiv (25 * fTick) 10000
  tStartB := Config.roundDiv (6 * fTick) 10000
  tRelease := max 1 2
  ackBound := Config.roundDiv fTick 10
  waitBound := waitBound
  countWidth := Config.widthHolding (waitBound - 1)
  decodeLatency := 1
  syncStages := 2
  baseAddr := baseAddr

/-- The start-pulse width T_START that a variant code selects (R132). -/
def Params.tStart (p : Params) (variant : BitVec 2) : Nat := if variant = 0b00#2 then p.tStartA else p.tStartB

/-- CNT_WIDTH, the width of `cnt` (R21). It is not observable, and the model counts in numbers (log 5). -/
def Params.cntWidth (p : Params) : Nat :=
  Config.widthHolding
    (max p.tWakeHigh (max p.tStartA (max p.tStartB (max p.tRelease (max p.ackBound (max p.waitBound p.decodeLatency))))) - 1)

/-! ### Free values -/

/-- Which admissible F_TICK the instance of `State.reset` has (A2, OPEN). -/
opaque Config.freeTickRate : Nat

/-- Which admissible WAIT_BOUND the instance of `State.reset` has (A3, OPEN). -/
opaque Config.freeWaitBound : Nat

/-- Which admissible BASE_ADDR the instance of `State.reset` has (A4, OPEN). -/
opaque Config.freeWindow : Nat

/-- The line sample `s` of the tick with this number, where the inputs do not give it: a free input under no law (R45). -/
opaque Config.freeLine : Nat → Bool

/-- What entry i of `buf` holds before any capture has written it: any value (A8). -/
opaque Config.powerOnSample : Nat → Sample

/-- The level of the wire in the tick with this number while the block drives it and the sensor drives it too, to the level
given: any value (R63, A17; log 18). -/
opaque Config.contendedLevel : Nat → Bool → Bool

/-- F_TICK of the instance of `State.reset`: any rate at which R6's default column meets its constraint column (log 2). -/
def Config.fTick : Nat := 834 + Config.freeTickRate

/-- WAIT_BOUND of the instance of `State.reset`: any value R6's constraints allow, 2 to 65536 (log 2). -/
def Config.waitBound : Nat := 2 + Config.freeWaitBound % 65535

/-- BASE_ADDR of the instance of `State.reset`: any 32-byte aligned address (log 2). -/
def Config.baseAddr : Nat := 32 * Config.freeWindow

end Sys2Proof
end

