-- ==== Sys2Proof/Machine/State.lean ====
section
/-! DEFINITION. The state of one SWTD instance: R21's ten elements, the output ports of the last tick, and the model's own
carriers of the instance's parameters and of the inputs of the ticks to come. -/

namespace Sys2Proof.Machine

/-- The sequencer's nine states (R22, R77); codes 9 to 15 are excluded by the type (A9). -/
inductive Fsm where
  | idle
  | wakeHigh
  | startLow
  | release
  | ackLow
  | ackHigh
  | capLow
  | capHigh
  | decode
  deriving DecidableEq, Repr

/-- The result codes (R27, R78); code 7 is excluded by the type (A10). -/
inductive Result where
  | none
  | ok
  | malformed
  | checksum
  | unsupported
  | timeoutAckLow
  | timeoutAckHigh
  deriving DecidableEq, Repr

/-- The inputs of one tick (R8, R43). -/
structure TickInput where
  /-- `rst` at this edge (R230) -/
  rst : Bool
  /-- the synchronized line sample `s` of this tick (R45); `none` leaves it the free input it is (log 8) -/
  line : Option Bool
  /-- the transaction of this tick as its word T (R70); `none` is `bus_valid` = 0 (R114) -/
  bus : Option BusWord
  deriving DecidableEq, Repr

/-- The state of one instance. -/
structure State where
  /-- the model's own: the build-time parameters of R6, written by no step (log 1) -/
  params : Params
  /-- R22 -/
  fsm : Fsm
  /-- R23 (log 5) -/
  cnt : Nat
  /-- R24 -/
  n : BitVec 7
  /-- R25 (log 6) -/
  buf : Vector Sample 100
  /-- R26 -/
  variant : BitVec 2
  /-- R27 -/
  result : Result
  /-- R28 -/
  startIgnored : Bool
  /-- R29 -/
  frame : Vector Byte 5
  /-- R30 (log 6) -/
  peak : Sample
  /-- R31 -/
  csum : Byte
  /-- port `bus_rdata` as the last tick drove it (R43, R115; log 9) -/
  busRdata : Word
  /-- port `bus_err` as the last tick drove it (R43, R115; log 9) -/
  busErr : Bool
  /-- the model's own: the inputs of the ticks to come, next first (log 7) -/
  pending : List TickInput
  /-- the model's own: the number of ticks so far, the argument of the free line sample (log 8) -/
  tick : Nat
  deriving DecidableEq, Repr

/-- Why the block stops: never. No outcome of R200 is a trap (R203) and nothing in the block is stuck
(93_implementation_defined.md, the end of Part A), so the type has no constructor; every exceptional outcome is a next
state. -/
inductive Fault where
  deriving DecidableEq, Repr

/-- Why the model gives a transaction no meaning. -/
inductive Refusal where
  /-- Raised by an arm of `exec` whose transaction has no meaning yet, and by nothing else. Safe: the model stops. -/
  | notModelled (mnemonic : String)
  deriving DecidableEq, Repr

/-- What `buf` holds at the reset state: entry i is the free value `Config.powerOnSample i` (R42 "unspecified", A8; log 4). -/
def State.powerOnBuf : Vector Sample 100 := ⟨((List.range 100).map Config.powerOnSample).toArray, by simp⟩

/-- The machine right after reset (R42, R230), with nothing presented on its ports yet. The state before the first reset
(R231) is no start of the model (log 10). -/
def State.reset : State where
  params := Params.defaults Config.fTick Config.waitBound Config.baseAddr
  fsm := .idle
  cnt := 0
  n := 0
  buf := State.powerOnBuf
  variant := 0b00#2
  result := .none
  startIgnored := false
  frame := Vector.replicate 5 0
  peak := 0
  csum := 0
  busRdata := 0
  busErr := false
  pending := []
  tick := 0

end Sys2Proof.Machine
end

