-- ==== Sys2Proof/Machine/Flags.lean ====
section
/-! DEFINITION. The status bits and the codes the host reads them in: BUSY, START_IGNORED and RESULT are all there are
(R33). The line outputs are functions of the sequencer and stand here too. -/

namespace Sys2Proof.Machine

/-- BUSY: 1 exactly when `fsm` is not IDLE (R32). -/
def State.busy (s : State) : Bool := s.fsm != .idle

/-- The code of a sequencer state, as STATUS.FSM_STATE reads it (R77). -/
def Fsm.code : Fsm → BitVec 4
  | .idle => 0
  | .wakeHigh => 1
  | .startLow => 2
  | .release => 3
  | .ackLow => 4
  | .ackHigh => 5
  | .capLow => 6
  | .capHigh => 7
  | .decode => 8

/-- The code of a result, as STATUS.RESULT reads it (R78). -/
def Result.code : Result → BitVec 3
  | .none => 0
  | .ok => 1
  | .malformed => 2
  | .checksum => 3
  | .unsupported => 4
  | .timeoutAckLow => 5
  | .timeoutAckHigh => 6

/-- The source's public status code that a host maps a result to; NONE has none (R78). -/
def Result.publicCode : Result → Option Int
  | .none => Option.none
  | .ok => some 0
  | .malformed => some (-1)
  | .checksum => some (-1)
  | .unsupported => some (-2)
  | .timeoutAckLow => some (-3)
  | .timeoutAckHigh => some (-3)

/-- Port `line_oe` in a sequencer state (R44). -/
def Fsm.lineOe : Fsm → Bool
  | .wakeHigh | .startLow | .release => true
  | .idle | .ackLow | .ackHigh | .capLow | .capHigh | .decode => false

/-- Port `line_out` in a sequencer state (R44). -/
def Fsm.lineOut : Fsm → Bool
  | .startLow => false
  | .idle | .wakeHigh | .release | .ackLow | .ackHigh | .capLow | .capHigh | .decode => true

/-- Port `line_oe` (R43, R44). -/
def State.lineOe (s : State) : Bool := s.fsm.lineOe

/-- Port `line_out` (R43, R44). -/
def State.lineOut (s : State) : Bool := s.fsm.lineOut

/-- The level of the wire, where `sensor` is the level the sensor drives, or `none` where it drives nothing (R43, R44, R63).
A released wire follows the sensor, and else the pull-up; a wire driven by the block alone has the block's level; a wire that
both drive has any value (A17; log 18). No step reads this level back (R63). -/
def State.wireLevel (s : State) (sensor : Option Bool) : Bool :=
  if s.lineOe then
    match sensor with
    | none => s.lineOut
    | some level => Config.contendedLevel s.tick level
  else sensor.getD true

/-- A falling edge is detected exactly when ACK_LOW or CAP_HIGH reads 0 (R139). -/
def Fsm.fallingEdge (f : Fsm) (line : Bool) : Bool := (f == .ackLow || f == .capHigh) && !line

/-- A rising edge is detected exactly when ACK_HIGH or CAP_LOW reads 1 (R139). -/
def Fsm.risingEdge (f : Fsm) (line : Bool) : Bool := (f == .ackHigh || f == .capLow) && line

end Sys2Proof.Machine
end

