-- ==== Sys2Proof/Machine/Operands.lean ====
section
/-! DEFINITION. What a read of each word slot of the window returns (R35 to R41): the operands a transaction reads. -/

namespace Sys2Proof.Machine

/-- CTRL: `zext_32({variant, 0b0})` (R35). -/
def State.ctrlValue (s : State) : Word := 0#29 ++ s.variant ++ 0#1

/-- STATUS: `{12'b0, fsm, 1'b0, n, 3'b0, result, start_ignored, BUSY}` (R36). -/
def State.statusValue (s : State) : Word :=
  0#12 ++ s.fsm.code ++ 0#1 ++ s.n ++ 0#3 ++ s.result.code ++ BitVec.ofBool s.startIgnored ++ BitVec.ofBool s.busy

/-- FRAME0: `{frame[0], frame[1], frame[2], frame[3]}` (R37). -/
def State.frame0Value (s : State) : Word := s.frame[0] ++ s.frame[1] ++ s.frame[2] ++ s.frame[3]

/-- FRAME1: `zext_32(frame[4])` (R38). -/
def State.frame1Value (s : State) : Word := 0#24 ++ s.frame[4]

/-- The 40-bit frame, bit 39 first (R83): the value FRAME0 and FRAME1 pack. -/
def State.frameBits (s : State) : BitVec 40 := s.frame[0] ++ s.frame[1] ++ s.frame[2] ++ s.frame[3] ++ s.frame[4]

/-- DEBUG: `{8'b0, csum, zext_16(peak)}` (R39). -/
def State.debugValue (s : State) : Word := 0#8 ++ s.csum ++ s.peak

/-- PARAM: `{11'b0, COUNT_WIDTH[4:0], 8'd41, 8'd100}`, a constant of the instance (R40). -/
def State.paramValue (s : State) : Word :=
  0#11 ++ BitVec.ofNat 5 s.params.countWidth ++ BitVec.ofNat 8 Config.frameSamples ++ BitVec.ofNat 8 Config.maxTimings

/-- The reserved slots read as zero (R41). -/
def reservedValue : Word := 0

end Sys2Proof.Machine
end

