-- ==== Sys2Proof/Machine/Ops.lean ====
section
/-! DEFINITION. The named operations that rules share: the bus response, the move to another sequencer state, the sample
buffer, starting and ending a capture, and reset. The block has no trap entry and no trap return (R203, R204); its
exceptional outcomes are `finish`, `rejectStart`, `ctrlWriteBusy` and `busError`, each shared by the rules that raise it. -/

namespace Sys2Proof.Machine

/-! ### The bus -/

/-- Drive `bus_rdata` and `bus_err` in this tick (R115). -/
def State.respond (s : State) (rdata : Word) (err : Bool) : State := { s with busRdata := rdata, busErr := err }

/-- The bus error response: no data, no state change (R113). -/
def State.busError (s : State) : State := s.respond 0 true

/-! ### The sequencer -/

/-- `fsm <- f; cnt <- c`. -/
def State.goto (s : State) (f : Fsm) (c : Nat) : State := { s with fsm := f, cnt := c }

/-- `cnt <- cnt + 1`. -/
def State.count (s : State) : State := { s with cnt := s.cnt + 1 }

/-! ### The sample buffer (R25, R57) -/

/-- A count as the COUNT_WIDTH bits of one sample (R21; log 6: no reachable count is cut). -/
def toSample (p : Params) (c : Nat) : Sample := BitVec.ofNat 16 (c % 2 ^ p.countWidth)

/-- `buf[n] <- cnt; n <- n + 1` (R137; log 11: an index past the buffer, which no run reaches, writes nothing). -/
def State.record (s : State) : State :=
  { s with buf := s.buf.setIfInBounds s.n.toNat (toSample s.params s.cnt), n := s.n + 1 }

/-- The samples of the capture, `buf[0..n-1]` in order. -/
def State.samples (s : State) : List Nat := (s.buf.toList.take s.n.toNat).map BitVec.toNat

/-! ### Starting and ending a capture -/

/-- What every start command issued while idle clears, beside RESULT (R108, R109, R204). -/
def State.clearCapture (s : State) : State :=
  { s with n := 0, startIgnored := false, frame := Vector.replicate 5 0, peak := 0, csum := 0 }

/-- A start command with a supported variant, accepted (R108). -/
def State.acceptStart (s : State) (variant : BitVec 2) : State :=
  { (s.clearCapture.goto .wakeHigh 0) with variant := variant, result := .none }

/-- A start command with a reserved variant, rejected before the line is driven (R109). -/
def State.rejectStart (s : State) (variant : BitVec 2) : State :=
  { s.clearCapture with variant := variant, result := .unsupported }

/-- A CTRL write while a capture runs: only a start is noted (R110). -/
def State.ctrlWriteBusy (s : State) (start : Bool) : State := if start then { s with startIgnored := true } else s

/-- The capture ends with result `r` and the sequencer goes to IDLE (R134, R135, R169). -/
def State.finish (s : State) (r : Result) : State := { (s.goto .idle 0) with result := r }

/-! ### Reset -/

/-- One edge with `rst` = 1 (R230): every element of R21 but `buf` takes its reset value, the transaction is dropped. -/
def State.resetEdge (s : State) : State :=
  { s with
    fsm := .idle, cnt := 0, n := 0, variant := 0b00#2, result := .none, startIgnored := false
    frame := Vector.replicate 5 0, peak := 0, csum := 0, busRdata := 0, busErr := false }

/-! ### The inputs of a tick -/

/-- A tick for which nothing is presented: no reset, no transaction, the line free (log 7, log 8). -/
def TickInput.quiet : TickInput := { rst := false, line := none, bus := none }

/-- The inputs of the tick that is about to happen. -/
def State.input (s : State) : TickInput := s.pending.headD TickInput.quiet

/-- The line sample `s` of the tick that is about to happen (R45): as the inputs give it, else free. -/
def State.sample (s : State) : Bool := s.input.line.getD (Config.freeLine s.tick)

/-- The host presents the transaction `t` in the very next tick, and no reset in it (log 7). -/
def State.present (s : State) (t : BusWord) : State :=
  { s with pending := { s.input with rst := false, bus := some t } :: s.pending.tail }

/-- The tick's inputs are used up. -/
def State.consume (s : State) : State := { s with pending := s.pending.tail, tick := s.tick + 1 }

end Sys2Proof.Machine
end

