-- ==== Sys2Proof/Machine/FrameDecoder.lean ====
section
/-! DEFINITION. The decode of 43_decode.md, a pure function of the samples of one capture (R170, R171): peak finder,
threshold comparator, frame reconstructor, length check, checksum, result, and their commit. -/

namespace Sys2Proof.Machine

/-- Peak finder (R161): the largest of samples 1 to n-1, 0 where there is none. -/
def peakOf (samples : List Nat) : Nat := (samples.drop 1).foldl max 0

/-- Threshold comparator (R162): exact over the naturals (R11). -/
def bitOf (peak d : Nat) : Bool := 2 * d > peak

/-- `F[j] <- ((F[j] << 1) | bit) mod 256` (R163). -/
def shiftInto (f : Vector Byte 5) (j : Nat) (bit : Bool) : Vector Byte 5 :=
  f.setIfInBounds j ((f[j]?.getD 0 <<< 1) ||| BitVec.setWidth 8 (BitVec.ofBool bit))

/-- The loop of R163 over the bits that are left, of which the first has index `k` = i - 1. -/
def fillFrame : List Bool → Nat → Vector Byte 5 → Vector Byte 5
  | [], _, f => f
  | bit :: bits, k, f => fillFrame bits (k + 1) (shiftInto f (k / 8) bit)

/-- The bits of samples 1 to min(n-1, 40) (R163); later samples give no bit (R164). -/
def frameBitsOf (samples : List Nat) : List Bool :=
  ((samples.drop 1).take Config.frameBits).map (bitOf (peakOf samples))

/-- Frame reconstructor (R163, R164). -/
def frameOf (samples : List Nat) : Vector Byte 5 := fillFrame (frameBitsOf samples) 0 (Vector.replicate 5 0)

/-- Length check (R165). -/
def lengthOk (samples : List Nat) : Bool := samples.length == Config.frameSamples

/-- Checksum computation (R166): 8-bit addition, so modulo 256. -/
def checksumOf (f : Vector Byte 5) : Byte := f[0] + f[1] + f[2] + f[3]

/-- Checksum validator (R167). -/
def checksumOk (f : Vector Byte 5) : Bool := f[4] == checksumOf f

/-- Result selection (R168): the length failure first. -/
def selectResult (lengthOk checksumOk : Bool) : Result :=
  if !lengthOk then .malformed else if !checksumOk then .checksum else .ok

/-- What one decode yields (R171). -/
structure Decoded where
  result : Result
  frame : Vector Byte 5
  peak : Nat
  csum : Byte
  deriving DecidableEq, Repr

/-- The decode as one function (R171). -/
def decodeSamples (samples : List Nat) : Decoded where
  result := selectResult (lengthOk samples) (checksumOk (frameOf samples))
  frame := frameOf samples
  peak := peakOf samples
  csum := checksumOf (frameOf samples)

/-- Commit (R169): frame, PEAK, CSUM_CALC and RESULT, whatever the result is, and the move to IDLE, at one edge. -/
def State.commit (s : State) (d : Decoded) : State :=
  { (s.finish d.result) with frame := d.frame, peak := BitVec.ofNat 16 d.peak, csum := d.csum }

end Sys2Proof.Machine
end

