-- ==== Sys2Proof/Machine/Capture.lean ====
section
/-! DEFINITION. The sequencer's step at one edge with `rst` = 0, one rule a state (42_capture.md R130 to R138). `line` is
the sample `s` of the tick. -/

namespace Sys2Proof.Machine

/-- WAKE_HIGH (R131). -/
def tickWakeHigh (s : State) : State :=
  if s.cnt + 1 = s.params.tWakeHigh then s.goto .startLow 0 else s.count

/-- START_LOW (R132). -/
def tickStartLow (s : State) : State :=
  if s.cnt + 1 = s.params.tStart s.variant then s.goto .release 0 else s.count

/-- RELEASE (R133). -/
def tickRelease (s : State) : State :=
  if s.cnt + 1 = s.params.tRelease then s.goto .ackLow 0 else s.count

/-- ACK_LOW (R134). -/
def tickAckLow (line : Bool) (s : State) : State :=
  if line = false then s.goto .ackHigh 1
  else if s.cnt + 1 = s.params.ackBound then s.finish .timeoutAckLow
  else s.count

/-- ACK_HIGH (R135). -/
def tickAckHigh (line : Bool) (s : State) : State :=
  if line = true then s.goto .capHigh 1
  else if s.cnt + 1 = s.params.ackBound then s.finish .timeoutAckHigh
  else s.count

/-- CAP_LOW (R136). -/
def tickCapLow (line : Bool) (s : State) : State :=
  if line = true then s.goto .capHigh 1
  else if s.cnt + 1 = s.params.waitBound then s.goto .decode 0
  else s.count

/-- CAP_HIGH (R137): a falling edge records the pulse; the 100th sample, or a high phase that reaches the bound, ends the
capture. -/
def tickCapHigh (line : Bool) (s : State) : State :=
  if line = false then
    if s.n.toNat + 1 = Config.maxTimings then s.record.goto .decode 0 else s.record.goto .capLow 1
  else if s.cnt + 1 = s.params.waitBound then s.goto .decode 0
  else s.count

/-- DECODE (R138, R160): wait out the latency, then commit the decode of the samples. -/
def tickDecode (s : State) : State :=
  if s.cnt + 1 = s.params.decodeLatency then s.commit (decodeSamples s.samples) else s.count

/-- The tick rule of the state's sequencer state; IDLE does not step (R130). -/
def tickRule (line : Bool) (s : State) : State :=
  match s.fsm with
  | .idle => s
  | .wakeHigh => tickWakeHigh s
  | .startLow => tickStartLow s
  | .release => tickRelease s
  | .ackLow => tickAckLow line s
  | .ackHigh => tickAckHigh line s
  | .capLow => tickCapLow line s
  | .capHigh => tickCapHigh line s
  | .decode => tickDecode s

/-- The block's own part of an edge (R115): `pre` is the pre-edge state, which says whether a capture runs and what the line
sample is; `s` is the pre-edge state with the bus's effects of the edge (the two never meet, R115; log 14). -/
def blockStep (pre s : State) : State := if pre.busy then tickRule pre.sample s else s

/-- A tick that carries no transaction, as far as the bus goes (R114). -/
def State.noTransaction (s : State) : State := s.respond 0 false

end Sys2Proof.Machine
end

