-- ==== Sys2Proof/Syntax.lean ====
section
/-! DEFINITION. The transactions of spec/opcode_table.json as syntax, one constructor a row (30_encoding.md R76). An
argument named `d` or `hi` is data the row ignores (R72, R73): it is kept so that a term is exactly one transaction word
(log 16). -/

namespace Sys2Proof

/-- One host transaction (R70, R76). -/
inductive Instr where
  /-- RD_CTRL (R100) -/
  | rdCtrl (d : Word)
  /-- RD_STATUS (R101) -/
  | rdStatus (d : Word)
  /-- RD_FRAME0 (R102) -/
  | rdFrame0 (d : Word)
  /-- RD_FRAME1 (R103) -/
  | rdFrame1 (d : Word)
  /-- RD_DEBUG (R104) -/
  | rdDebug (d : Word)
  /-- RD_PARAM (R105) -/
  | rdParam (d : Word)
  /-- RD_RSVD (R106), offset 0x18 or 0x1C -/
  | rdRsvd (a : Offset) (d : Word)
  /-- WR_CTRL_CFG (R107): D[2:1] = variant, D[31:3] = hi -/
  | wrCtrlCfg (hi : BitVec 29) (variant : BitVec 2)
  /-- WR_CTRL_START_A (R108) -/
  | wrCtrlStartA (hi : BitVec 29)
  /-- WR_CTRL_START_B (R108) -/
  | wrCtrlStartB (hi : BitVec 29)
  /-- WR_CTRL_START_RSV (R109), D[2:1] = 0b10 or 0b11 -/
  | wrCtrlStartRsv (hi : BitVec 29) (variant : BitVec 2)
  /-- WR_STATUS (R111) -/
  | wrStatus (d : Word)
  /-- WR_FRAME0 (R111) -/
  | wrFrame0 (d : Word)
  /-- WR_FRAME1 (R111) -/
  | wrFrame1 (d : Word)
  /-- WR_DEBUG (R111) -/
  | wrDebug (d : Word)
  /-- WR_PARAM (R111) -/
  | wrParam (d : Word)
  /-- WR_RSVD (R112), offset 0x18 or 0x1C -/
  | wrRsvd (a : Offset) (d : Word)
  /-- MISALIGNED_A0 (R113), A[0] = 1, either direction -/
  | misalignedA0 (w : Bool) (a : Offset) (d : Word)
  /-- MISALIGNED_A1 (R113), A[1:0] = 0b10, either direction -/
  | misalignedA1 (w : Bool) (a : Offset) (d : Word)
  deriving DecidableEq, Repr

end Sys2Proof
end

