-- ==== Sys2Proof/WellFormed.lean ====
section
/-! DEFINITION. Which terms are transactions: the operand constraints of the rows of R76. The decoder yields no other term
(log 17). -/

namespace Sys2Proof

/-- A reserved word slot of the window: offset 0x18 or 0x1C (R41, R55). -/
def Offset.isReservedSlot (a : Offset) : Bool := a == 0x18#5 || a == 0x1C#5

/-- A reserved VARIANT code: 0b10 or 0b11 (R74). -/
def isReservedVariant (v : BitVec 2) : Bool := v == 0b10#2 || v == 0b11#2

/-- The term is a word of its row (R76). -/
def Instr.wf : Instr → Bool
  | .rdCtrl _ => true
  | .rdStatus _ => true
  | .rdFrame0 _ => true
  | .rdFrame1 _ => true
  | .rdDebug _ => true
  | .rdParam _ => true
  | .rdRsvd a _ => Offset.isReservedSlot a
  | .wrCtrlCfg _ _ => true
  | .wrCtrlStartA _ => true
  | .wrCtrlStartB _ => true
  | .wrCtrlStartRsv _ v => isReservedVariant v
  | .wrStatus _ => true
  | .wrFrame0 _ => true
  | .wrFrame1 _ => true
  | .wrDebug _ => true
  | .wrParam _ => true
  | .wrRsvd a _ => Offset.isReservedSlot a
  | .misalignedA0 _ a _ => a.extractLsb' 0 1 == 0b1#1
  | .misalignedA1 _ a _ => a.extractLsb' 0 2 == 0b10#2

end Sys2Proof
end

