-- ==== Sys2Proof/Decode.lean ====
section
/-! DEFINITION. The transaction word (R70), its decoder in the order of R75, the encoder, and R76's map as a table. -/

namespace Sys2Proof

/-! ### Fields of T (R70, R71) -/

/-- W, `bus_we`: 1 write, 0 read. -/
def BusWord.w (t : BusWord) : Bool := t.getLsbD 37

/-- A, `bus_addr[4:0]`. -/
def BusWord.a (t : BusWord) : Offset := t.extractLsb' 32 5

/-- D, `bus_wdata[31:0]`. -/
def BusWord.d (t : BusWord) : Word := t.extractLsb' 0 32

/-- T of the ports' values. -/
def BusWord.ofPorts (w : Bool) (a : Offset) (d : Word) : BusWord := BitVec.ofBool w ++ a ++ d

/-! ### Fields of a CTRL write (R73) -/

/-- D[0], START. -/
def ctrlStart (d : Word) : Bool := d.getLsbD 0

/-- D[2:1], VARIANT. -/
def ctrlVariant (d : Word) : BitVec 2 := d.extractLsb' 1 2

/-- D[31:3], ignored. -/
def ctrlIgnored (d : Word) : BitVec 29 := d.extractLsb' 3 29

/-- CTRL write data of its fields. -/
def ctrlData (hi : BitVec 29) (variant : BitVec 2) (start : Bool) : Word := hi ++ variant ++ BitVec.ofBool start

/-! ### Decoding (R75) -/

/-- A write of CTRL: D[0] and then D[2:1] select the row. -/
def decodeCtrlWrite (d : Word) : Instr :=
  if ctrlStart d = false then .wrCtrlCfg (ctrlIgnored d) (ctrlVariant d)
  else if ctrlVariant d = 0b00#2 then .wrCtrlStartA (ctrlIgnored d)
  else if ctrlVariant d = 0b01#2 then .wrCtrlStartB (ctrlIgnored d)
  else .wrCtrlStartRsv (ctrlIgnored d) (ctrlVariant d)

/-- An aligned read: A selects the slot of R55. -/
def decodeRead (a : Offset) (d : Word) : Instr :=
  if a = 0x00#5 then .rdCtrl d
  else if a = 0x04#5 then .rdStatus d
  else if a = 0x08#5 then .rdFrame0 d
  else if a = 0x0C#5 then .rdFrame1 d
  else if a = 0x10#5 then .rdDebug d
  else if a = 0x14#5 then .rdParam d
  else .rdRsvd a d

/-- An aligned write. -/
def decodeWrite (a : Offset) (d : Word) : Instr :=
  if a = 0x00#5 then decodeCtrlWrite d
  else if a = 0x04#5 then .wrStatus d
  else if a = 0x08#5 then .wrFrame0 d
  else if a = 0x0C#5 then .wrFrame1 d
  else if a = 0x10#5 then .wrDebug d
  else if a = 0x14#5 then .wrParam d
  else .wrRsvd a d

/-- The transaction that the ports' values present: misaligned first, then A and W, then D (R75). -/
def decodePorts (w : Bool) (a : Offset) (d : Word) : Instr :=
  if a.getLsbD 0 = true then .misalignedA0 w a d
  else if a.getLsbD 1 = true then .misalignedA1 w a d
  else if w = true then decodeWrite a d
  else decodeRead a d

/-- The decoder: every 38-bit word is a transaction (R75, R79). -/
def decode (t : BusWord) : Instr := decodePorts t.w t.a t.d

/-- Why a number is no transaction. -/
inductive Reject where
  /-- It has a bit above bit 37, and a transaction is one 38-bit word (R70, R80). -/
  | beyond38Bits
  deriving DecidableEq, Repr

/-- The decoder on any number: a word of more than 38 bits is rejected by name (log 15). -/
def decodeNat (n : Nat) : Except Reject Instr :=
  if n < 2 ^ 38 then .ok (decode (BitVec.ofNat 38 n)) else .error .beyond38Bits

/-- What the decoder reads from an instruction whose bits are `w`, numbered as spec/opcode_table.json numbers them: T
itself, bit 37 the highest (R70). All rows have one length (R80), so `nbits` decides nothing. -/
def decodeTableWord (_nbits w : Nat) : Option Instr :=
  match decodeNat w with
  | .ok i => some i
  | .error _ => none

/-! ### Encoding (R76) -/

/-- The word of a transaction, from the columns W, A and D condition of R76. -/
def encode : Instr → BusWord
  | .rdCtrl d => BusWord.ofPorts false 0x00#5 d
  | .rdStatus d => BusWord.ofPorts false 0x04#5 d
  | .rdFrame0 d => BusWord.ofPorts false 0x08#5 d
  | .rdFrame1 d => BusWord.ofPorts false 0x0C#5 d
  | .rdDebug d => BusWord.ofPorts false 0x10#5 d
  | .rdParam d => BusWord.ofPorts false 0x14#5 d
  | .rdRsvd a d => BusWord.ofPorts false a d
  | .wrCtrlCfg hi v => BusWord.ofPorts true 0x00#5 (ctrlData hi v false)
  | .wrCtrlStartA hi => BusWord.ofPorts true 0x00#5 (ctrlData hi 0b00#2 true)
  | .wrCtrlStartB hi => BusWord.ofPorts true 0x00#5 (ctrlData hi 0b01#2 true)
  | .wrCtrlStartRsv hi v => BusWord.ofPorts true 0x00#5 (ctrlData hi v true)
  | .wrStatus d => BusWord.ofPorts true 0x04#5 d
  | .wrFrame0 d => BusWord.ofPorts true 0x08#5 d
  | .wrFrame1 d => BusWord.ofPorts true 0x0C#5 d
  | .wrDebug d => BusWord.ofPorts true 0x10#5 d
  | .wrParam d => BusWord.ofPorts true 0x14#5 d
  | .wrRsvd a d => BusWord.ofPorts true a d
  | .misalignedA0 w a d => BusWord.ofPorts w a d
  | .misalignedA1 w a d => BusWord.ofPorts w a d

/-! ### The opcode map as data (R76) -/

/-- One row: T selects it when `T &&& mask = pattern`. -/
structure OpcodeRow where
  mnemonic : String
  pattern : BusWord
  mask : BusWord
  deriving DecidableEq, Repr

/-- The row is selected by T. -/
def OpcodeRow.selects (r : OpcodeRow) (t : BusWord) : Bool := t &&& r.mask == r.pattern

/-- The rows of R76 that read. -/
def readRows : List OpcodeRow :=
  [⟨"RD_CTRL", 0x0000000000#38, 0x3F00000000#38⟩,
   ⟨"RD_STATUS", 0x0400000000#38, 0x3F00000000#38⟩,
   ⟨"RD_FRAME0", 0x0800000000#38, 0x3F00000000#38⟩,
   ⟨"RD_FRAME1", 0x0C00000000#38, 0x3F00000000#38⟩,
   ⟨"RD_DEBUG", 0x1000000000#38, 0x3F00000000#38⟩,
   ⟨"RD_PARAM", 0x1400000000#38, 0x3F00000000#38⟩,
   ⟨"RD_RSVD", 0x1800000000#38, 0x3B00000000#38⟩]

/-- The rows of R76 that write. -/
def writeRows : List OpcodeRow :=
  [⟨"WR_CTRL_CFG", 0x2000000000#38, 0x3F00000001#38⟩,
   ⟨"WR_CTRL_START_A", 0x2000000001#38, 0x3F00000007#38⟩,
   ⟨"WR_CTRL_START_B", 0x2000000003#38, 0x3F00000007#38⟩,
   ⟨"WR_CTRL_START_RSV", 0x2000000005#38, 0x3F00000005#38⟩,
   ⟨"WR_STATUS", 0x2400000000#38, 0x3F00000000#38⟩,
   ⟨"WR_FRAME0", 0x2800000000#38, 0x3F00000000#38⟩,
   ⟨"WR_FRAME1", 0x2C00000000#38, 0x3F00000000#38⟩,
   ⟨"WR_DEBUG", 0x3000000000#38, 0x3F00000000#38⟩,
   ⟨"WR_PARAM", 0x3400000000#38, 0x3F00000000#38⟩,
   ⟨"WR_RSVD", 0x3800000000#38, 0x3B00000000#38⟩]

/-- The misaligned rows of R76. -/
def misalignedRows : List OpcodeRow :=
  [⟨"MISALIGNED_A0", 0x0100000000#38, 0x0100000000#38⟩,
   ⟨"MISALIGNED_A1", 0x0200000000#38, 0x0300000000#38⟩]

/-- The complete transaction map of R76. -/
def opcodeMap : List OpcodeRow := readRows ++ writeRows ++ misalignedRows

/-- The mnemonic of a transaction's row. -/
def Instr.mnemonic : Instr → String
  | .rdCtrl _ => "RD_CTRL"
  | .rdStatus _ => "RD_STATUS"
  | .rdFrame0 _ => "RD_FRAME0"
  | .rdFrame1 _ => "RD_FRAME1"
  | .rdDebug _ => "RD_DEBUG"
  | .rdParam _ => "RD_PARAM"
  | .rdRsvd _ _ => "RD_RSVD"
  | .wrCtrlCfg _ _ => "WR_CTRL_CFG"
  | .wrCtrlStartA _ => "WR_CTRL_START_A"
  | .wrCtrlStartB _ => "WR_CTRL_START_B"
  | .wrCtrlStartRsv _ _ => "WR_CTRL_START_RSV"
  | .wrStatus _ => "WR_STATUS"
  | .wrFrame0 _ => "WR_FRAME0"
  | .wrFrame1 _ => "WR_FRAME1"
  | .wrDebug _ => "WR_DEBUG"
  | .wrParam _ => "WR_PARAM"
  | .wrRsvd _ _ => "WR_RSVD"
  | .misalignedA0 _ _ _ => "MISALIGNED_A0"
  | .misalignedA1 _ _ _ => "MISALIGNED_A1"

end Sys2Proof
end

