-- ==== Sys2Proof/Machine/BusRead.lean ====
section
/-! DEFINITION. The read transactions (R100 to R106): each answers from the pre-edge state and writes no element (R58). -/

namespace Sys2Proof.Machine

/-- RD_CTRL (R100). -/
def execRdCtrl (s : State) : Host.Outcome State Fault Refusal := .next (s.respond s.ctrlValue false)

/-- RD_STATUS (R101). -/
def execRdStatus (s : State) : Host.Outcome State Fault Refusal := .next (s.respond s.statusValue false)

/-- RD_FRAME0 (R102). -/
def execRdFrame0 (s : State) : Host.Outcome State Fault Refusal := .next (s.respond s.frame0Value false)

/-- RD_FRAME1 (R103). -/
def execRdFrame1 (s : State) : Host.Outcome State Fault Refusal := .next (s.respond s.frame1Value false)

/-- RD_DEBUG (R104). -/
def execRdDebug (s : State) : Host.Outcome State Fault Refusal := .next (s.respond s.debugValue false)

/-- RD_PARAM (R105). -/
def execRdParam (s : State) : Host.Outcome State Fault Refusal := .next (s.respond s.paramValue false)

/-- RD_RSVD (R106): a reserved aligned offset is not an error. -/
def execRdRsvd (s : State) : Host.Outcome State Fault Refusal := .next (s.respond reservedValue false)

end Sys2Proof.Machine
end

