-- ==== Sys2Proof/Machine/CtrlWrite.lean ====
section
/-! DEFINITION. The writes of CTRL (R107 to R110): each reads `busy` of the pre-edge state. -/

namespace Sys2Proof.Machine

/-- WR_CTRL_CFG (R107, R110). -/
def execWrCtrlCfg (variant : BitVec 2) (s : State) : Host.Outcome State Fault Refusal :=
  .next ((if s.busy then s.ctrlWriteBusy false else { s with variant := variant }).respond 0 false)

/-- WR_CTRL_START_A (R108, R110): VariantA, code 0b00 (R74). -/
def execWrCtrlStartA (s : State) : Host.Outcome State Fault Refusal :=
  .next ((if s.busy then s.ctrlWriteBusy true else s.acceptStart 0b00#2).respond 0 false)

/-- WR_CTRL_START_B (R108, R110): VariantB, code 0b01 (R74). -/
def execWrCtrlStartB (s : State) : Host.Outcome State Fault Refusal :=
  .next ((if s.busy then s.ctrlWriteBusy true else s.acceptStart 0b01#2).respond 0 false)

/-- WR_CTRL_START_RSV (R109, R110). -/
def execWrCtrlStartRsv (variant : BitVec 2) (s : State) : Host.Outcome State Fault Refusal :=
  .next ((if s.busy then s.ctrlWriteBusy true else s.rejectStart variant).respond 0 false)

end Sys2Proof.Machine
end

