-- ==== Sys2Proof/Machine/Misaligned.lean ====
section
/-! DEFINITION. The misaligned transactions (R113): the bus error response, whatever W, the rest of A, and D are. -/

namespace Sys2Proof.Machine

/-- MISALIGNED_A0 (R113). -/
def execMisalignedA0 (s : State) : Host.Outcome State Fault Refusal := .next s.busError

/-- MISALIGNED_A1 (R113). -/
def execMisalignedA1 (s : State) : Host.Outcome State Fault Refusal := .next s.busError

end Sys2Proof.Machine
end

