-- ==== Sys2Proof/Machine/OtherWrite.lean ====
section
/-! DEFINITION. The writes that change nothing: of a read-only register (R111) and of a reserved slot (R112). -/

namespace Sys2Proof.Machine

/-- A write that is ignored without an error (R111, R112). -/
def State.ignoreWrite (s : State) : State := s.respond 0 false

/-- WR_STATUS (R111). -/
def execWrStatus (s : State) : Host.Outcome State Fault Refusal := .next s.ignoreWrite

/-- WR_FRAME0 (R111). -/
def execWrFrame0 (s : State) : Host.Outcome State Fault Refusal := .next s.ignoreWrite

/-- WR_FRAME1 (R111). -/
def execWrFrame1 (s : State) : Host.Outcome State Fault Refusal := .next s.ignoreWrite

/-- WR_DEBUG (R111). -/
def execWrDebug (s : State) : Host.Outcome State Fault Refusal := .next s.ignoreWrite

/-- WR_PARAM (R111). -/
def execWrParam (s : State) : Host.Outcome State Fault Refusal := .next s.ignoreWrite

/-- WR_RSVD (R112). -/
def execWrRsvd (s : State) : Host.Outcome State Fault Refusal := .next s.ignoreWrite

end Sys2Proof.Machine
end

