-- ==== Sys2Proof/Machine/Dispatch.lean ====
section
/-! DEFINITION. The meaning of each transaction on the pre-edge state: its response and its write effects (R115). -/

namespace Sys2Proof.Machine

/-- The response and the write effects of a transaction presented in the pre-edge state `s` (R100 to R113). -/
def exec (i : Instr) (s : State) : Host.Outcome State Fault Refusal :=
  match i with
  | .rdCtrl _ => Sys2Proof.Machine.execRdCtrl s
  | .rdStatus _ => Sys2Proof.Machine.execRdStatus s
  | .rdFrame0 _ => Sys2Proof.Machine.execRdFrame0 s
  | .rdFrame1 _ => Sys2Proof.Machine.execRdFrame1 s
  | .rdDebug _ => Sys2Proof.Machine.execRdDebug s
  | .rdParam _ => Sys2Proof.Machine.execRdParam s
  | .rdRsvd _ _ => Sys2Proof.Machine.execRdRsvd s
  | .wrCtrlCfg _ variant => Sys2Proof.Machine.execWrCtrlCfg variant s
  | .wrCtrlStartA _ => Sys2Proof.Machine.execWrCtrlStartA s
  | .wrCtrlStartB _ => Sys2Proof.Machine.execWrCtrlStartB s
  | .wrCtrlStartRsv _ variant => Sys2Proof.Machine.execWrCtrlStartRsv variant s
  | .wrStatus _ => Sys2Proof.Machine.execWrStatus s
  | .wrFrame0 _ => Sys2Proof.Machine.execWrFrame0 s
  | .wrFrame1 _ => Sys2Proof.Machine.execWrFrame1 s
  | .wrDebug _ => Sys2Proof.Machine.execWrDebug s
  | .wrParam _ => Sys2Proof.Machine.execWrParam s
  | .wrRsvd _ _ => Sys2Proof.Machine.execWrRsvd s
  | .misalignedA0 _ _ _ => Sys2Proof.Machine.execMisalignedA0 s
  | .misalignedA1 _ _ _ => Sys2Proof.Machine.execMisalignedA1 s

end Sys2Proof.Machine
end

