-- ==== Sys2Proof/Machine/Step.lean ====
section
/-! DEFINITION. One step is one rising edge of `clk` (R7, R115, R230). -/

namespace Sys2Proof.Machine

/-- One edge. With `rst` = 1 only the reset happens (R230, R202 (a)). With `rst` = 0 the tick's transaction, if any, is
answered and takes effect from the pre-edge state, and the block takes its own step if it was busy (R114, R115). -/
def step (s : State) : Host.Outcome State Fault Refusal :=
  if s.input.rst then .next s.consume.resetEdge
  else
    match s.input.bus with
    | none => .next (blockStep s s.consume.noTransaction)
    | some t =>
      match exec (decode t) s.consume with
      | .next s' => .next (blockStep s s')
      | .fault r => .fault r
      | .refused r => .refused r

/-- `s` with the transaction word `w` presented in the very next tick, and no reset in it (log 7). The word is T itself, so
`nbits` decides nothing (R80). -/
def State.withFetchWord (s : State) (_nbits w : Nat) : State :=
  s.present (BitVec.ofNat 38 w)

end Sys2Proof.Machine
end

