-- ==== Sys2Proof/Machine/Script.lean ====
section
/-! DEFINITION. What a host writes: platform accesses of the window (R10, R50), script lines and their encodings (R81), and
the pseudo-instructions (R82). Nothing here is part of a step: a script yields the transactions of successive ticks. -/

namespace Sys2Proof.Machine

/-- The window offset of a platform address, where it lies in the 32 bytes at BASE_ADDR (R50). -/
def windowOffset (p : Params) (addr : Nat) : Option Offset :=
  if p.baseAddr ≤ addr ∧ addr < p.baseAddr + 32 then some (BitVec.ofNat 5 (addr - p.baseAddr)) else none

/-- `MemRead(addr, 4)`: the transaction word, D left 0 (R10). -/
def memRead (p : Params) (addr : Nat) : Option BusWord :=
  (windowOffset p addr).map (fun a => BusWord.ofPorts false a 0)

/-- `MemWrite(addr, 4, v)`: the transaction word (R10). -/
def memWrite (p : Params) (addr : Nat) (v : Word) : Option BusWord :=
  (windowOffset p addr).map (fun a => BusWord.ofPorts true a v)

/-- A line of a host script, one tick (R81). -/
inductive ScriptLine where
  | rd (a : Offset)
  | wr (a : Offset) (imm : Word)
  | nop
  deriving DecidableEq, Repr

/-- The transaction of a line: T of R70; `nop` has none (R81). -/
def ScriptLine.bus : ScriptLine → Option BusWord
  | .rd a => some (BusWord.ofPorts false a 0)
  | .wr a imm => some (BusWord.ofPorts true a imm)
  | .nop => none

/-- `start.a` (R82). -/
def scriptStartA : List ScriptLine := [.wr 0x00#5 0x00000001#32]

/-- `start.b` (R82). -/
def scriptStartB : List ScriptLine := [.wr 0x00#5 0x00000003#32]

/-- `setvar v` (R82). -/
def scriptSetVar (v : BitVec 2) : List ScriptLine := [.wr 0x00#5 (ctrlData 0 v false)]

/-- `wait k` (R82). -/
def scriptWait (k : Nat) : List ScriptLine := List.replicate k .nop

/-- `poll` over `k` ticks: `rd STATUS` in each (R82). When the host stops is read off the answers by `pollEnds`. -/
def scriptPoll (k : Nat) : List ScriptLine := List.replicate k (.rd 0x04#5)

/-- The host's `poll` loop ends on an answer whose bit 0, BUSY, is 0 (R82). -/
def pollEnds (rdata : Word) : Bool := rdata.getLsbD 0 == false

/-- The inputs of a script's ticks, with the line sample that goes with each (R81), and no reset. -/
def scriptInputs (lines : List (ScriptLine × Bool)) : List TickInput :=
  lines.map (fun l => { rst := false, line := some l.2, bus := l.1.bus })

end Sys2Proof.Machine
end

