-- ==== Sys2Proof/Machine/Synchronizer.lean ====
section
/-! DEFINITION. The input synchronizer in front of the sampler (R45): SYNC_STAGES flip-flops. It is outside the block's
model, which takes its output `s` as a free input (R45, D9; log 12), and no step calls it. -/

namespace Sys2Proof.Machine

/-- One edge of the flip-flops. `stages` holds them with the one nearest the sampler first. The sample is what that one
holds, or the level itself where there are no flip-flops. -/
def synchronizeTick (stages : List Bool) (lineIn : Bool) : Bool × List Bool :=
  match stages with
  | [] => (lineIn, [])
  | s :: rest => (s, rest ++ [lineIn])

/-- The samples of successive edges, for the levels `line_in` has at them. -/
def synchronize : List Bool → List Bool → List Bool
  | _, [] => []
  | stages, l :: ls => (synchronizeTick stages l).1 :: synchronize (synchronizeTick stages l).2 ls

end Sys2Proof.Machine
end

