-- ==== Sys2Proof/Safety.lean ====
section
/-! DEFINITION. The terms claims use: the invariant of R46, when a frame is data (R235), when a run carries no reset, and
the termination bound of R144. -/

namespace Sys2Proof.Machine

/-- The range of `cnt` in a sequencer state (R46 (d)). -/
def State.CntInRange (s : State) : Prop :=
  match s.fsm with
  | .idle => s.cnt = 0
  | .wakeHigh => s.cnt < s.params.tWakeHigh
  | .startLow => s.cnt < s.params.tStart s.variant
  | .release => s.cnt < s.params.tRelease
  | .ackLow => s.cnt < s.params.ackBound
  | .ackHigh => 1 ≤ s.cnt ∧ s.cnt < s.params.ackBound
  | .capLow => 1 ≤ s.cnt ∧ s.cnt < s.params.waitBound
  | .capHigh => 1 ≤ s.cnt ∧ s.cnt < s.params.waitBound
  | .decode => s.cnt < s.params.decodeLatency

/-- The capture has recorded no sample yet in these states (R24, R137: only CAP_HIGH records). -/
def Fsm.beforeCapture : Fsm → Bool
  | .wakeHigh | .startLow | .release | .ackLow | .ackHigh => true
  | .idle | .capLow | .capHigh | .decode => false

/-- What the result code says of the other result registers (R200's last column, R168): nothing while it is NONE. -/
def State.ResultMeans (s : State) : Prop :=
  match s.result with
  | .none => True
  | .ok => s.n.toNat = 41 ∧ s.frame[4] = s.csum
  | .checksum => s.n.toNat = 41 ∧ s.frame[4] ≠ s.csum
  | .malformed => s.n.toNat ≠ 41
  | .unsupported | .timeoutAckLow | .timeoutAckHigh =>
    s.n = 0 ∧ s.frame = Vector.replicate 5 0 ∧ s.peak = 0 ∧ s.csum = 0

/-- The invariant of R46, with the parameters' constraints (R6), with what a start command clears staying clear until the
commit (R29 to R31), and with what the result registers say of one another (R31, R200). Clause (a) of R46 is the definition
of BUSY. -/
structure State.Inv (s : State) : Prop where
  /-- R6 -/
  params : s.params.Wf
  /-- R46 (b) -/
  nBound : s.n.toNat ≤ 100
  /-- R46 (c) -/
  samples : ∀ i : Fin 100, i.val < s.n.toNat → 1 ≤ s.buf[i].toNat ∧ s.buf[i].toNat ≤ s.params.waitBound - 1
  /-- R46 (d) -/
  cnt : s.CntInRange
  /-- R46 (e) -/
  result : s.busy = true → s.result = .none
  /-- R46 (f) -/
  capturing : s.fsm = .capLow ∨ s.fsm = .capHigh → s.n.toNat < 100
  /-- R46 (g) -/
  variant : s.busy = true → s.variant = 0b00#2 ∨ s.variant = 0b01#2
  /-- R24 -/
  fresh : s.fsm.beforeCapture = true → s.n = 0
  /-- R29, R30, R31 -/
  cleared : s.busy = true → s.frame = Vector.replicate 5 0 ∧ s.peak = 0 ∧ s.csum = 0
  /-- R31 -/
  csum : s.csum = checksumOf s.frame
  /-- R200 -/
  resultMeans : s.ResultMeans

/-- When a host may take FRAME0 and FRAME1 as sensor data: STATUS reads BUSY = 0 and RESULT = OK (R235). -/
def State.frameIsData (s : State) : Prop := s.busy = false ∧ s.result = .ok

/-- The inputs of the tick that is `j` ticks away. -/
def State.inputAt (s : State) (j : Nat) : TickInput := s.pending[j]?.getD TickInput.quiet

/-- The line sample of the tick that is `j` ticks away (R45). -/
def State.sampleAt (s : State) (j : Nat) : Bool := (s.inputAt j).line.getD (Config.freeLine (s.tick + j))

/-- None of the next `k` ticks resets the block. The host's transactions in them are left open. -/
def State.NoReset (s : State) (k : Nat) : Prop := ∀ j < k, (s.inputAt j).rst = false

/-- The ticks from an accepted start to its commit, at most (R144). -/
def captureBound (p : Params) (variant : BitVec 2) : Nat :=
  p.tWakeHigh + p.tStart variant + p.tRelease + (2 * p.ackBound - 1) + 199 * (p.waitBound - 1) + p.decodeLatency

/-- The sequencer states that can follow a state at an edge without a reset (R22, R77). -/
def Fsm.successors : Fsm → List Fsm
  | .idle => [.idle, .wakeHigh]
  | .wakeHigh => [.wakeHigh, .startLow]
  | .startLow => [.startLow, .release]
  | .release => [.release, .ackLow]
  | .ackLow => [.ackLow, .ackHigh, .idle]
  | .ackHigh => [.ackHigh, .capHigh, .idle]
  | .capLow => [.capLow, .capHigh, .decode]
  | .capHigh => [.capHigh, .capLow, .decode]
  | .decode => [.decode, .idle]

/-- A write of CTRL: W = 1, A = 0x00 (R73). -/
def isCtrlWrite (t : BusWord) : Bool := t.w && t.a == 0x00#5

/-- A start command: a write of CTRL with START = 1 (R73). -/
def isStart (t : BusWord) : Bool := isCtrlWrite t && ctrlStart t.d

/-- The line levels of a row of pulses, each `(high ticks, low ticks)`, tick by tick (R139, R140). -/
def wave (pulses : List (Nat × Nat)) : List Bool :=
  pulses.flatMap (fun p => List.replicate p.1 true ++ List.replicate p.2 false)

/-- The number that bits stand for, first bit highest (R53). -/
def bitsValue (bits : List Bool) : Nat := bits.foldl (fun v b => 2 * v + b.toNat) 0

/-- Run `k` ticks; the block never stops, so a run is a state. -/
def State.run : Nat → State → State
  | 0, s => s
  | k + 1, s =>
    match step s with
    | .next s' => State.run k s'
    | .fault _ => s
    | .refused _ => s

end Sys2Proof.Machine
end

