-- ==== Sys2Proof/Certificates/Slice0/Obligations.lean ====
section
/-! DEFINITION. The statements for the provers, in the order of the spec's files. -/

open Sys2Proof Sys2Proof.Machine

/-! ### Parameters (00_scope.md) -/

/-- R6's default column meets its constraint column, for every sample rate at which no default start pulse rounds to 0 ticks
(log 2) and every WAIT_BOUND that a 16-bit sample can hold; COUNT_WIDTH is the smallest width. The rounding is log 3's. -/
def Obligations.DefaultParametersMeetTheirConstraints : Prop :=
  ∀ fTick waitBound baseAddr : Nat, 834 ≤ fTick → 2 ≤ waitBound → waitBound ≤ 65536 → baseAddr % 32 = 0 →
    (Params.defaults fTick waitBound baseAddr).Wf ∧
    2 ^ ((Params.defaults fTick waitBound baseAddr).countWidth - 1) ≤ waitBound - 1

/-! ### Encodings (30_encoding.md) -/

/-- Words written out from R70, R76 and the encodings of 95_test_vectors.md decode to the transactions they stand for. -/
def Obligations.SpecWordsDecodeAsWritten : Prop :=
  decode 0x0000000000#38 = .rdCtrl 0 ∧ decode 0x00FFFFFFFF#38 = .rdCtrl 0xFFFFFFFF ∧
  decode 0x0400000000#38 = .rdStatus 0 ∧ decode 0x0800000000#38 = .rdFrame0 0 ∧
  decode 0x0C00000000#38 = .rdFrame1 0 ∧ decode 0x1000000000#38 = .rdDebug 0 ∧
  decode 0x1400000000#38 = .rdParam 0 ∧ decode 0x1C00000000#38 = .rdRsvd 0x1C 0 ∧
  decode 0x2000000002#38 = .wrCtrlCfg 0 0b01 ∧ decode 0x2000000001#38 = .wrCtrlStartA 0 ∧
  decode 0x2000000003#38 = .wrCtrlStartB 0 ∧ decode 0x2000000005#38 = .wrCtrlStartRsv 0 0b10 ∧
  decode 0x24FFFFFFFF#38 = .wrStatus 0xFFFFFFFF ∧ decode 0x2800000000#38 = .wrFrame0 0 ∧
  decode 0x2C00000000#38 = .wrFrame1 0 ∧ decode 0x3000000000#38 = .wrDebug 0 ∧
  decode 0x3400000000#38 = .wrParam 0 ∧ decode 0x3C12345678#38 = .wrRsvd 0x1C 0x12345678 ∧
  decode 0x2100000003#38 = .misalignedA0 true 0x01 3 ∧ decode 0x0600000000#38 = .misalignedA1 false 0x06 0

/-- Decoding the word of a well-formed transaction gives it back, with every operand and every ignored bit. -/
def Obligations.DecodeOfEncodeIsTheTransaction : Prop := ∀ i : Instr, i.wf = true → decode (encode i) = i

/-- Every word decodes to a well-formed transaction whose word it is: no bit of a word is dropped. -/
def Obligations.EncodeOfDecodeIsTheWord : Prop := ∀ t : BusWord, (decode t).wf = true ∧ encode (decode t) = t

/-- R75, R76: every word selects exactly one row of R76's map, and it is the row of the transaction the decoder gives; the
row is a misaligned one exactly when A[1:0] is not 0b00, whatever W and D are. -/
def Obligations.EveryWordSelectsExactlyItsRow : Prop :=
  ∀ t : BusWord, ((opcodeMap.filter (fun r => r.selects t)).map (fun r => r.mnemonic)) = [(decode t).mnemonic] ∧
    (t.a.extractLsb' 0 2 ≠ 0 ↔ (decode t).mnemonic = "MISALIGNED_A0" ∨ (decode t).mnemonic = "MISALIGNED_A1")

/-- R72: a read ignores D. Two words with W = 0 and the same A have the same effect in every state. -/
def Obligations.ReadsIgnoreWriteData : Prop :=
  ∀ (t t' : BusWord) (s : State), t.w = false → t'.w = false → t.a = t'.a → exec (decode t) s = exec (decode t') s

/-- R77, R78: the codes STATUS reads for the sequencer states and the results. -/
def Obligations.StatusCodesAreTheTables : Prop :=
  [Fsm.idle, .wakeHigh, .startLow, .release, .ackLow, .ackHigh, .capLow, .capHigh, .decode].map (fun f => f.code.toNat) =
    [0, 1, 2, 3, 4, 5, 6, 7, 8] ∧
  [Result.none, .ok, .malformed, .checksum, .unsupported, .timeoutAckLow, .timeoutAckHigh].map (fun r => r.code.toNat) =
    [0, 1, 2, 3, 4, 5, 6] ∧
  [Result.ok, .malformed, .checksum, .unsupported, .timeoutAckLow, .timeoutAckHigh].map Result.publicCode =
    [some 0, some (-1), some (-1), some (-2), some (-3), some (-3)]

/-- R50: a platform read or write of BASE_ADDR + off, off below 32, is the transaction with A = off; an address outside the
window is none. -/
def Obligations.WindowAccessIsItsTransaction : Prop :=
  ∀ (p : Params) (addr : Nat) (v : Word),
    (∀ off : Offset, addr = p.baseAddr + off.toNat →
      ∃ r w, memRead p addr = some r ∧ r.w = false ∧ r.a = off ∧
        memWrite p addr v = some w ∧ w.w = true ∧ w.a = off ∧ w.d = v) ∧
    (addr < p.baseAddr ∨ p.baseAddr + 32 ≤ addr → memRead p addr = none ∧ memWrite p addr v = none)

/-! ### Reads (41_host_bus.md) -/

/-- R100: RD_CTRL answers `{variant, 0b0}`, START reading 0, and changes no element. -/
def Obligations.ReadCtrlAnswersVariant : Prop :=
  ∀ (d : Word) (s : State), decode (BusWord.ofPorts false 0x00 d) = .rdCtrl d ∧
    ∃ v : Word, exec (.rdCtrl d) s = .next { s with busRdata := v, busErr := false } ∧
      v.extractLsb' 0 1 = 0 ∧ v.extractLsb' 1 2 = s.variant ∧ v.extractLsb' 3 29 = 0

/-- R101, R36: RD_STATUS answers BUSY, START_IGNORED, RESULT, SAMPLE_COUNT and FSM_STATE in their fields, reserved fields 0,
and changes no element. -/
def Obligations.ReadStatusAnswersItsFields : Prop :=
  ∀ (d : Word) (s : State), decode (BusWord.ofPorts false 0x04 d) = .rdStatus d ∧
    ∃ v : Word, exec (.rdStatus d) s = .next { s with busRdata := v, busErr := false } ∧
      (v.getLsbD 0 = true ↔ s.fsm ≠ .idle) ∧ v.getLsbD 1 = s.startIgnored ∧ v.extractLsb' 2 3 = s.result.code ∧
      v.extractLsb' 5 3 = 0 ∧ v.extractLsb' 8 7 = s.n ∧ v.extractLsb' 15 1 = 0 ∧ v.extractLsb' 16 4 = s.fsm.code ∧
      v.extractLsb' 20 12 = 0

/-- R102, R103, R37, R38: RD_FRAME0 and RD_FRAME1 answer the frame bytes, frame[0] highest, and change no element. -/
def Obligations.ReadFrameAnswersItsBytes : Prop :=
  ∀ (d : Word) (s : State), decode (BusWord.ofPorts false 0x08 d) = .rdFrame0 d ∧
    decode (BusWord.ofPorts false 0x0C d) = .rdFrame1 d ∧
    (∃ v : Word, exec (.rdFrame0 d) s = .next { s with busRdata := v, busErr := false } ∧
      v.extractLsb' 24 8 = s.frame[0] ∧ v.extractLsb' 16 8 = s.frame[1] ∧ v.extractLsb' 8 8 = s.frame[2] ∧
      v.extractLsb' 0 8 = s.frame[3]) ∧
    ∃ v : Word, exec (.rdFrame1 d) s = .next { s with busRdata := v, busErr := false } ∧
      v.extractLsb' 0 8 = s.frame[4] ∧ v.extractLsb' 8 24 = 0

/-- R104 to R106, R39 to R41: RD_DEBUG answers PEAK and CSUM_CALC; RD_PARAM the constants of the instance; RD_RSVD 0, without
an error; none changes an element. R6, R40: no step, also no reset, changes a parameter of the instance, so PARAM reads the same
in every state. -/
def Obligations.ReadDebugParamReservedAnswer : Prop :=
  ∀ (d : Word) (s : State), decode (BusWord.ofPorts false 0x10 d) = .rdDebug d ∧
    decode (BusWord.ofPorts false 0x14 d) = .rdParam d ∧
    (∃ v : Word, exec (.rdDebug d) s = .next { s with busRdata := v, busErr := false } ∧
      v.extractLsb' 0 16 = s.peak ∧ v.extractLsb' 16 8 = s.csum ∧ v.extractLsb' 24 8 = 0) ∧
    (∃ v : Word, exec (.rdParam d) s = .next { s with busRdata := v, busErr := false } ∧
      (v.extractLsb' 0 8).toNat = 100 ∧ (v.extractLsb' 8 8).toNat = 41 ∧
      (v.extractLsb' 16 5).toNat = s.params.countWidth % 32 ∧ v.extractLsb' 21 11 = 0) ∧
    (∀ a : Offset, a = 0x18 ∨ a = 0x1C → decode (BusWord.ofPorts false a d) = .rdRsvd a d ∧
      exec (.rdRsvd a d) s = .next { s with busRdata := 0, busErr := false }) ∧
    ∀ t, step s = .next t → t.params = s.params ∧ t.paramValue = s.paramValue

/-- R58: a read of any offset, and a write of any offset but CTRL's, changes no element, and a read repeated at once gives the
same answer. -/
def Obligations.OnlyCtrlWritesChangeState : Prop :=
  ∀ (t : BusWord) (s : State), t.w = false ∨ t.a ≠ 0x00 →
    ∃ v e, exec (decode t) s = .next { s with busRdata := v, busErr := e } ∧
      exec (decode t) { s with busRdata := v, busErr := e } = .next { s with busRdata := v, busErr := e }

/-! ### Writes (41_host_bus.md) -/

/-- R107, R110: WR_CTRL_CFG stores the variant code, any of the four, while idle, and changes nothing while busy. -/
def Obligations.ConfigWriteStoresVariantWhenIdle : Prop :=
  ∀ (hi : BitVec 29) (k : BitVec 2) (s : State),
    decode (BusWord.ofPorts true 0x00 (hi ++ k ++ 0#1)) = .wrCtrlCfg hi k ∧
    (s.fsm = .idle → exec (.wrCtrlCfg hi k) s = .next { s with variant := k, busRdata := 0, busErr := false }) ∧
    (s.fsm ≠ .idle → exec (.wrCtrlCfg hi k) s = .next { s with busRdata := 0, busErr := false })

/-- R108: an accepted start sets the variant, clears the last capture's results and START_IGNORED, and enters WAKE_HIGH; `buf`
is not cleared. -/
def Obligations.SupportedStartIsAcceptedWhenIdle : Prop :=
  ∀ (hi : BitVec 29) (s : State), s.fsm = .idle →
    decode (BusWord.ofPorts true 0x00 (hi ++ 0b001#3)) = .wrCtrlStartA hi ∧
    decode (BusWord.ofPorts true 0x00 (hi ++ 0b011#3)) = .wrCtrlStartB hi ∧
    exec (.wrCtrlStartA hi) s = .next { s with
      variant := 0b00, n := 0, result := .none, startIgnored := false, frame := Vector.replicate 5 0, peak := 0, csum := 0,
      cnt := 0, fsm := .wakeHigh, busRdata := 0, busErr := false } ∧
    exec (.wrCtrlStartB hi) s = .next { s with
      variant := 0b01, n := 0, result := .none, startIgnored := false, frame := Vector.replicate 5 0, peak := 0, csum := 0,
      cnt := 0, fsm := .wakeHigh, busRdata := 0, busErr := false }

/-- R109: a start with a reserved code stores it, clears the last capture's results and START_IGNORED, commits UNSUPPORTED and
leaves the sequencer in IDLE. -/
def Obligations.ReservedStartIsRejectedWhenIdle : Prop :=
  ∀ (hi : BitVec 29) (k : BitVec 2) (s : State), s.fsm = .idle → k = 0b10 ∨ k = 0b11 →
    decode (BusWord.ofPorts true 0x00 (hi ++ k ++ 1#1)) = .wrCtrlStartRsv hi k ∧
    exec (.wrCtrlStartRsv hi k) s = .next { s with
      variant := k, n := 0, startIgnored := false, frame := Vector.replicate 5 0, peak := 0, csum := 0,
      result := .unsupported, busRdata := 0, busErr := false }

/-- R110: any CTRL write while a capture runs only sets START_IGNORED, and only with D[0] = 1. -/
def Obligations.CtrlWriteWhileBusyOnlyNotesAStart : Prop :=
  ∀ (t : BusWord) (s : State), s.fsm ≠ .idle → t.w = true → t.a = 0x00 →
    exec (decode t) s = .next { s with
      startIgnored := t.d.getLsbD 0 || s.startIgnored, busRdata := 0, busErr := false }

/-- R111, R112: a write of a read-only register or of a reserved slot changes no element and is no error, in any state and
for any D. -/
def Obligations.OtherWritesAreIgnored : Prop :=
  ∀ (d : Word) (s : State),
    (∀ i ∈ [Instr.wrStatus d, .wrFrame0 d, .wrFrame1 d, .wrDebug d, .wrParam d, .wrRsvd 0x18 d, .wrRsvd 0x1C d],
      exec i s = .next { s with busRdata := 0, busErr := false }) ∧
    ([0x04, 0x08, 0x0C, 0x10, 0x14, 0x18, 0x1C].map (fun a => decode (BusWord.ofPorts true a d)) =
      [Instr.wrStatus d, .wrFrame0 d, .wrFrame1 d, .wrDebug d, .wrParam d, .wrRsvd 0x18 d, .wrRsvd 0x1C d])

/-- R113: a transaction with A[1:0] not 0b00, read or write, whatever D is, answers 0 with `bus_err` = 1 and changes no
element; it is one of the two misaligned rows. Every well-formed instruction of those two rows has the same answer. -/
def Obligations.MisalignedAccessIsABusErrorOnly : Prop :=
  (∀ (t : BusWord) (s : State), t.a.extractLsb' 0 2 ≠ 0 →
    (decode t = .misalignedA0 t.w t.a t.d ∨ decode t = .misalignedA1 t.w t.a t.d) ∧
    exec (decode t) s = .next { s with busRdata := 0, busErr := true }) ∧
  ∀ (w : Bool) (a : Offset) (d : Word) (s : State),
    ((Instr.misalignedA0 w a d).wf = true →
      exec (.misalignedA0 w a d) s = .next { s with busRdata := 0, busErr := true }) ∧
    ((Instr.misalignedA1 w a d).wf = true →
      exec (.misalignedA1 w a d) s = .next { s with busRdata := 0, busErr := true })

/-! ### One edge (41_host_bus.md R114, R115; 20_memory.md) -/

/-- R115: at an edge with `rst` = 0 the step is exec of the decoded transaction on the pre-edge state, its inputs used up, and
then the tick rule if the pre-edge state was busy; withFetchWord presents a word in just that way. -/
def Obligations.StepRunsTheDecodedTransaction : Prop :=
  (∀ (s t : State) (w : BusWord), s.input.rst = false → s.input.bus = some w → exec (decode w) s.consume = .next t →
    step s = .next (if s.fsm ≠ .idle then tickRule s.sample t else t)) ∧
  ∀ (s : State) (w : BusWord), (s.withFetchWord 40 w.toNat).input.rst = false ∧
    (s.withFetchWord 40 w.toNat).input.bus = some w

/-- R114: a tick without a transaction answers 0 without an error, and the bus writes no element. -/
def Obligations.TickWithoutTransactionOnlySteps : Prop :=
  ∀ s : State, s.input.rst = false → s.input.bus = none →
    ∃ t, step s = .next t ∧ t.busRdata = 0 ∧ t.busErr = false ∧
      t = { (tickRule s.sample s) with busRdata := 0, busErr := false, pending := s.pending.tail, tick := s.tick + 1 }

/-- R115: while a capture runs, a transaction changes at most `start_ignored` (and its response), and the tick rule neither
reads nor writes it, so the order of the two does not matter. -/
def Obligations.TransactionAndTickNeverMeet : Prop :=
  ∀ (i : Instr) (s t : State) (l : Bool), s.fsm ≠ .idle → exec i s = .next t →
    t = { s with startIgnored := t.startIgnored, busRdata := t.busRdata, busErr := t.busErr } ∧
    tickRule l t = { (tickRule l s) with startIgnored := t.startIgnored, busRdata := t.busRdata, busErr := t.busErr } ∧
    (tickRule l s).startIgnored = s.startIgnored

/-- Nothing in the block is stuck: every step from every state answers a next state. -/
def Obligations.EveryStepAnswersANextState : Prop := ∀ s : State, ∃ t, step s = .next t

/-- R59, R60, R100 to R106: a step with an aligned read answers all 32 bits of the addressed register as they stood before the
edge, also at the edge at which a capture commits, and no bus error. -/
def Obligations.ReadsShowThePreEdgeState : Prop :=
  ∀ (s t : State) (w : BusWord), s.input.rst = false → s.input.bus = some w → w.w = false → w.a.extractLsb' 0 2 = 0 →
    step s = .next t →
    t.busErr = false ∧
    t.busRdata =
      if w.a = 0x00 then 0#29 ++ s.variant ++ 0#1
      else if w.a = 0x04 then
        0#12 ++ s.fsm.code ++ 0#1 ++ s.n ++ 0#3 ++ s.result.code ++ BitVec.ofBool s.startIgnored ++
          BitVec.ofBool (decide (s.fsm ≠ .idle))
      else if w.a = 0x08 then s.frame[0] ++ s.frame[1] ++ s.frame[2] ++ s.frame[3]
      else if w.a = 0x0C then 0#24 ++ s.frame[4]
      else if w.a = 0x10 then 0#8 ++ s.csum ++ s.peak
      else if w.a = 0x14 then 0#11 ++ BitVec.ofNat 5 s.params.countWidth ++ 41#8 ++ 100#8
      else 0

/-- R237: a `rd STATUS` in the tick after a start written while idle reads BUSY = 1, or RESULT = UNSUPPORTED for a reserved
code. -/
def Obligations.StatusAfterStartShowsIt : Prop :=
  ∀ (s : State) (l l' : Option Bool) (hi : BitVec 29) (k : BitVec 2) (d : Word) (rest : List TickInput), s.fsm = .idle →
    s.pending = { rst := false, line := l, bus := some (BusWord.ofPorts true 0x00 (hi ++ k ++ 1#1)) } ::
      { rst := false, line := l', bus := some (BusWord.ofPorts false 0x04 d) } :: rest →
    if k = 0b00 ∨ k = 0b01 then (s.run 2).busRdata.getLsbD 0 = true
    else (s.run 2).busRdata.getLsbD 0 = false ∧ (s.run 2).busRdata.extractLsb' 2 3 = 4

/-! ### Reset (70_reset_and_hazards.md, 10_state.md R42) -/

/-- R230: an edge with `rst` = 1 sets every element but `buf` to its reset value, drops the transaction and answers 0 without
an error, whatever else is presented. -/
def Obligations.ResetEdgeSetsEveryElement : Prop :=
  ∀ s : State, s.input.rst = true →
    step s = .next { s with
      fsm := .idle, cnt := 0, n := 0, variant := 0b00, result := .none, startIgnored := false,
      frame := Vector.replicate 5 0, peak := 0, csum := 0, busRdata := 0, busErr := false,
      pending := s.pending.tail, tick := s.tick + 1 }

/-- R42, R232: after a reset edge, also one during a capture, CTRL, STATUS, FRAME0, FRAME1 and DEBUG read 0x00000000, PARAM as
before, and the line is released. -/
def Obligations.RegistersReadZeroAfterReset : Prop :=
  ∀ s t : State, s.input.rst = true → step s = .next t →
    (∀ d, ∀ i ∈ [Instr.rdCtrl d, .rdStatus d, .rdFrame0 d, .rdFrame1 d, .rdDebug d],
      exec i t = .next { t with busRdata := 0, busErr := false }) ∧
    t.paramValue = s.paramValue ∧ t.lineOe = false ∧ t.lineOut = true

/-! ### Rules of the whole block (10_state.md, 20_memory.md, 60_exceptions.md) -/

/-- R42, R46: the state the model starts from has R42's values, releases the line, and meets the invariant whatever the free
parameters of the instance and the free contents of `buf` are (log 2, log 4). -/
def Obligations.ResetStateMeetsTheInvariant : Prop :=
  State.reset.Inv ∧ State.reset.fsm = .idle ∧ State.reset.cnt = 0 ∧ State.reset.n = 0 ∧ State.reset.variant = 0b00 ∧
  State.reset.result = .none ∧ State.reset.startIgnored = false ∧ State.reset.frame = Vector.replicate 5 0 ∧
  State.reset.peak = 0 ∧ State.reset.csum = 0 ∧ State.reset.lineOe = false ∧ State.reset.lineOut = true

/-- R46: every step keeps the invariant, whatever the host, the line and `rst` do. -/
def Obligations.EveryStepKeepsTheInvariant : Prop := ∀ s t : State, s.Inv → step s = .next t → t.Inv

/-- R21, R25: in every state of the invariant, `cnt` fits CNT_WIDTH bits and every recorded sample fits COUNT_WIDTH bits. -/
def Obligations.CountersFitTheirWidths : Prop :=
  ∀ s : State, s.Inv → s.cnt < 2 ^ s.params.cntWidth ∧
    ∀ i : Fin 100, i.val < s.n.toNat → s.buf[i].toNat < 2 ^ s.params.countWidth

/-- R22: without a reset the sequencer moves only along its states' order. -/
def Obligations.SequencerFollowsItsOrder : Prop :=
  ∀ s t : State, s.input.rst = false → step s = .next t → t.fsm ∈ s.fsm.successors

/-- R130: nothing but an accepted start leaves IDLE. An idle block's tick without a CTRL write and without a reset changes no
element, whatever the line does; the answer, the input list and the tick number alone move on (the last two are the model's,
log 7, 8). -/
def Obligations.OnlyASupportedStartLeavesIdle : Prop :=
  ∀ s t : State, s.fsm = .idle → step s = .next t →
    (t.fsm ≠ .idle →
      s.input.rst = false ∧
      ∃ w hi, s.input.bus = some w ∧ (decode w = .wrCtrlStartA hi ∨ decode w = .wrCtrlStartB hi)) ∧
    (s.input.rst = false → (∀ w, s.input.bus = some w → isCtrlWrite w = false) →
      t = { s with
        busRdata := t.busRdata, busErr := t.busErr, pending := s.pending.tail, tick := s.tick + 1 })

/-- R24: `n` is set to 0 by a start issued while idle and by reset, and incremented only where CAP_HIGH reads a low sample. -/
def Obligations.SampleCountChangesOnlyAsRuled : Prop :=
  ∀ s t : State, step s = .next t →
    t.n = if s.input.rst then 0
      else if s.fsm = .capHigh ∧ s.sample = false then s.n + 1
      else if s.fsm = .idle ∧ (∃ w, s.input.bus = some w ∧ isStart w = true) then 0
      else s.n

/-- R25, R57: `buf` is written only where CAP_HIGH reads a low sample, and only at entry n. -/
def Obligations.BufferIsWrittenOnlyAtAFallingEdge : Prop :=
  ∀ s t : State, step s = .next t →
    (t.buf ≠ s.buf → s.input.rst = false ∧ s.fsm = .capHigh ∧ s.sample = false) ∧
    ∀ i : Fin 100, i.val ≠ s.n.toNat → t.buf[i] = s.buf[i]

/-- R26, R35: VARIANT is written only by reset and by a CTRL write while idle, which stores D[2:1]; so it is constant for the
whole of a capture. -/
def Obligations.VariantChangesOnlyAsRuled : Prop :=
  ∀ s t : State, step s = .next t →
    t.variant = if s.input.rst then 0b00
      else match s.input.bus with
        | some w => if isCtrlWrite w = true ∧ s.fsm = .idle then w.d.extractLsb' 1 2 else s.variant
        | none => s.variant

/-- R28: START_IGNORED is set by a start while busy, cleared by a start while idle and by reset, and written by nothing
else. -/
def Obligations.StartIgnoredChangesOnlyAsRuled : Prop :=
  ∀ s t : State, step s = .next t →
    t.startIgnored = if s.input.rst then false
      else match s.input.bus with
        | some w => if isStart w = true then s.busy else s.startIgnored
        | none => s.startIgnored

/-- R61: at the edge that ends a capture, RESULT, the frame, PEAK, CSUM_CALC and the move to IDLE happen together, and at no
other edge of a capture does any of them change. -/
def Obligations.CaptureEndsAtOneEdge : Prop :=
  ∀ s t : State, s.fsm ≠ .idle → s.input.rst = false → step s = .next t →
    if t.fsm = .idle then
      t.cnt = 0 ∧ t.n = s.n ∧ t.buf = s.buf ∧ t.result ≠ .none ∧
      ((s.fsm = .decode ∧ t.result = (decodeSamples s.samples).result ∧ t.frame = (decodeSamples s.samples).frame ∧
          t.peak = BitVec.ofNat 16 (decodeSamples s.samples).peak ∧ t.csum = (decodeSamples s.samples).csum) ∨
        ((s.fsm = .ackLow ∧ t.result = .timeoutAckLow ∨ s.fsm = .ackHigh ∧ t.result = .timeoutAckHigh) ∧
          t.frame = s.frame ∧ t.peak = s.peak ∧ t.csum = s.csum))
    else t.result = s.result ∧ t.frame = s.frame ∧ t.peak = s.peak ∧ t.csum = s.csum

/-- R61, R235: from a commit to the next start issued while idle, or reset, no element changes but `variant`; the result a
host has read stays. -/
def Obligations.ResultStaysUntilTheNextStart : Prop :=
  ∀ s t : State, s.fsm = .idle → s.input.rst = false → (∀ w, s.input.bus = some w → isStart w = false) →
    step s = .next t →
    t = { s with
      variant := t.variant, busRdata := t.busRdata, busErr := t.busErr, pending := s.pending.tail, tick := s.tick + 1 }

/-- R27, R46 (e): once a start command has been issued, the block is either running a capture or shows a result, until it is
reset: RESULT never falls back to NONE while idle. -/
def Obligations.ResultStaysKnownAfterAStart : Prop :=
  ∀ s t : State, s.input.rst = false → step s = .next t →
    s.fsm ≠ .idle ∨ s.result ≠ .none ∨ (∃ w, s.input.bus = some w ∧ isStart w = true) →
    t.fsm ≠ .idle ∨ t.result ≠ .none

/-- R200, R235: in every state of the invariant, a frame that a host may take as data came from 41 samples and its fifth byte
is the sum of the first four modulo 256. -/
def Obligations.DataFrameHasItsChecksum : Prop :=
  ∀ s : State, s.Inv → s.frameIsData → s.n.toNat = 41 ∧
    s.frame[4].toNat = (s.frame[0].toNat + s.frame[1].toNat + s.frame[2].toNat + s.frame[3].toNat) % 256

/-- R44: the line outputs by sequencer state. R43, R63: a released wire has the level that the sensor drives, and high by the
pull-up where it drives nothing; a wire that the block alone drives has the block's level. Under contention the level is a free
value (log 18), of which nothing is claimed. -/
def Obligations.LineOutputsFollowTheSequencer : Prop :=
  ∀ s : State,
    (s.fsm = .wakeHigh ∨ s.fsm = .release → s.lineOe = true ∧ s.lineOut = true ∧ s.wireLevel none = true) ∧
    (s.fsm = .startLow → s.lineOe = true ∧ s.lineOut = false ∧ s.wireLevel none = false) ∧
    (s.fsm ≠ .wakeHigh → s.fsm ≠ .startLow → s.fsm ≠ .release →
      s.lineOe = false ∧ s.lineOut = true ∧ s.wireLevel none = true ∧ ∀ l, s.wireLevel (some l) = l)

/-- R63: the line sample is ignored in IDLE, in the drive states and in DECODE, so the block never reads back the level it
drives itself. -/
def Obligations.LineIsNotReadWhileDriven : Prop :=
  ∀ (s : State) (b : Option BusWord) (l l' : Option Bool) (rest : List TickInput),
    s.fsm ≠ .ackLow → s.fsm ≠ .ackHigh → s.fsm ≠ .capLow → s.fsm ≠ .capHigh →
    step { s with pending := { rst := false, line := l, bus := b } :: rest } =
      step { s with pending := { rst := false, line := l', bus := b } :: rest }

/-! ### The capture (42_capture.md) -/

/-- R131 to R133, R74, R242: from the entry of WAKE_HIGH the block is in WAKE_HIGH for exactly T_WAKE_HIGH ticks, in START_LOW
for exactly the start-pulse width, T_START_A with variant code 0b00 and T_START_B with 0b01 (no other code enters WAKE_HIGH:
R109), in RELEASE for exactly T_RELEASE ticks, and then enters ACK_LOW, whatever the host and the line do. -/
def Obligations.DrivePhasesLastExactly : Prop :=
  ∀ (s : State) (j start : Nat), s.params.Wf → s.fsm = .wakeHigh → s.cnt = 0 → s.NoReset j →
    (s.variant = 0b00 ∧ start = s.params.tStartA ∨ s.variant = 0b01 ∧ start = s.params.tStartB) →
    (j < s.params.tWakeHigh → (s.run j).fsm = .wakeHigh) ∧
    (s.params.tWakeHigh ≤ j → j < s.params.tWakeHigh + start → (s.run j).fsm = .startLow) ∧
    (s.params.tWakeHigh + start ≤ j →
      j < s.params.tWakeHigh + start + s.params.tRelease → (s.run j).fsm = .release) ∧
    (j = s.params.tWakeHigh + start + s.params.tRelease →
      (s.run j).fsm = .ackLow ∧ (s.run j).cnt = 0)

/-- R134: ACK_LOW counts high samples; a low one within ACK_BOUND samples is the acknowledgement and counts as the first of
the next phase; ACK_BOUND high ones end the capture with TIMEOUT_ACK_LOW and leave the cleared registers as they are. -/
def Obligations.AckLowTakesALowOrTimesOut : Prop :=
  ∀ (s : State) (k : Nat), s.fsm = .ackLow → s.cnt = 0 → k < s.params.ackBound → s.NoReset (k + 1) →
    (∀ j < k, s.sampleAt j = true) →
    ((s.run k).fsm = .ackLow ∧ (s.run k).cnt = k) ∧
    (s.sampleAt k = false → (s.run (k + 1)).fsm = .ackHigh ∧ (s.run (k + 1)).cnt = 1) ∧
    (s.sampleAt k = true → k + 1 = s.params.ackBound →
      (s.run (k + 1)).fsm = .idle ∧ (s.run (k + 1)).result = .timeoutAckLow ∧ (s.run (k + 1)).n = s.n ∧
      (s.run (k + 1)).frame = s.frame ∧ (s.run (k + 1)).peak = s.peak ∧ (s.run (k + 1)).csum = s.csum)

/-- R135: ACK_HIGH counts low samples, the one that left ACK_LOW included; a high one before the count reaches ACK_BOUND is the
first sample of the acknowledgement pulse; a count of ACK_BOUND ends the capture with TIMEOUT_ACK_HIGH. -/
def Obligations.AckHighTakesAHighOrTimesOut : Prop :=
  ∀ (s : State) (k : Nat), s.fsm = .ackHigh → s.cnt = 1 → k + 1 < s.params.ackBound → s.NoReset (k + 1) →
    (∀ j < k, s.sampleAt j = false) →
    ((s.run k).fsm = .ackHigh ∧ (s.run k).cnt = k + 1) ∧
    (s.sampleAt k = true → (s.run (k + 1)).fsm = .capHigh ∧ (s.run (k + 1)).cnt = 1) ∧
    (s.sampleAt k = false → k + 2 = s.params.ackBound →
      (s.run (k + 1)).fsm = .idle ∧ (s.run (k + 1)).result = .timeoutAckHigh ∧ (s.run (k + 1)).n = s.n ∧
      (s.run (k + 1)).frame = s.frame ∧ (s.run (k + 1)).peak = s.peak ∧ (s.run (k + 1)).csum = s.csum)

/-- R136, R141 (a): CAP_LOW counts low samples; a high one before the count reaches WAIT_BOUND is the first sample of the next
pulse; a count of WAIT_BOUND ends the frame with the samples recorded so far. -/
def Obligations.CapLowTakesAHighOrEndsTheFrame : Prop :=
  ∀ (s : State) (k : Nat), s.fsm = .capLow → s.cnt = 1 → k + 1 < s.params.waitBound → s.NoReset (k + 1) →
    (∀ j < k, s.sampleAt j = false) →
    ((s.run k).fsm = .capLow ∧ (s.run k).cnt = k + 1) ∧
    (s.sampleAt k = true → (s.run (k + 1)).fsm = .capHigh ∧ (s.run (k + 1)).cnt = 1) ∧
    (s.sampleAt k = false → k + 2 = s.params.waitBound → (s.run (k + 1)).fsm = .decode ∧ (s.run (k + 1)).cnt = 0) ∧
    (s.run (k + 1)).n = s.n ∧ (s.run (k + 1)).buf = s.buf

/-- R137, R140, R141: a high phase of h samples, h below WAIT_BOUND, is recorded as h in the next entry at its falling edge,
and the 100th recorded sample ends the capture; a high phase that reaches WAIT_BOUND samples ends it unrecorded. -/
def Obligations.HighPhaseIsRecordedAsItsWidth : Prop :=
  ∀ (s : State) (h : Nat), s.params.Wf → s.fsm = .capHigh → s.cnt = 1 → s.n.toNat < 100 → 1 ≤ h → h < s.params.waitBound →
    s.NoReset h → (∀ j < h - 1, s.sampleAt j = true) →
    (s.sampleAt (h - 1) = false →
      (s.run h).n = s.n + 1 ∧ (s.run h).samples = s.samples ++ [h] ∧
      (if s.n.toNat + 1 = 100 then (s.run h).fsm = .decode ∧ (s.run h).cnt = 0
        else (s.run h).fsm = .capLow ∧ (s.run h).cnt = 1)) ∧
    (s.sampleAt (h - 1) = true → h + 1 = s.params.waitBound →
      (s.run h).fsm = .decode ∧ (s.run h).cnt = 0 ∧ (s.run h).n = s.n ∧ (s.run h).buf = s.buf)

/-- R138, R169, R241: DECODE lasts exactly DECODE_LATENCY ticks and then commits the decode of the samples; the committed values
do not depend on the latency, the host or the line. -/
def Obligations.DecodeCommitsAfterItsLatency : Prop :=
  ∀ (s : State) (j : Nat), s.fsm = .decode → s.cnt = 0 → 1 ≤ s.params.decodeLatency → s.NoReset j →
    (j < s.params.decodeLatency → (s.run j).fsm = .decode) ∧
    (j = s.params.decodeLatency →
      (s.run j).fsm = .idle ∧ (s.run j).cnt = 0 ∧ (s.run j).n = s.n ∧ (s.run j).variant = s.variant ∧
      (s.run j).result = (decodeSamples s.samples).result ∧ (s.run j).frame = (decodeSamples s.samples).frame ∧
      (s.run j).peak = BitVec.ofNat 16 (decodeSamples s.samples).peak ∧ (s.run j).csum = (decodeSamples s.samples).csum)

/-- R139: the block detects a falling edge where ACK_LOW or CAP_HIGH reads 0 and a rising edge where ACK_HIGH or CAP_LOW reads
1; the edge's sample is the first of the new phase; without an edge no sample is recorded and no new phase of the line
begins. -/
def Obligations.PhasesBeginAtDetectedEdges : Prop :=
  ∀ s t : State, s.input.rst = false → step s = .next t →
    (s.fsm.risingEdge s.sample = true → t.fsm = .capHigh ∧ t.cnt = 1) ∧
    (s.fsm.fallingEdge s.sample = true →
      (s.fsm = .ackLow ∧ t.fsm = .ackHigh ∧ t.cnt = 1) ∨
      (s.fsm = .capHigh ∧ t.n = s.n + 1 ∧ (t.fsm = .capLow ∧ t.cnt = 1 ∨ t.fsm = .decode ∧ s.n.toNat + 1 = 100))) ∧
    (s.fsm ≠ .idle → s.fsm.risingEdge s.sample = false → s.fsm.fallingEdge s.sample = false →
      t.n = s.n ∧ t.buf = s.buf ∧ (t.fsm ≠ s.fsm → t.fsm ≠ .ackHigh ∧ t.fsm ≠ .capLow ∧ t.fsm ≠ .capHigh))

/-- R140, R142, R143: a response of up to 99 pulses, each a high and then a low phase shorter than WAIT_BOUND, after which the
line stays high, is recorded as the row of its high widths, and the decode of that row is what the capture commits; with 41
pulses `n` is 41. Premises are the calibration conditions (a) and (b) of R239. -/
def Obligations.ResponseCommitsTheDecodeOfItsPulses : Prop :=
  ∀ (s : State) (pulses : List (Nat × Nat)) (ticks : Nat), s.Inv → s.fsm = .capHigh → s.cnt = 1 → s.n = 0 →
    pulses ≠ [] → pulses.length ≤ 99 →
    (∀ p ∈ pulses, 1 ≤ p.1 ∧ p.1 < s.params.waitBound ∧ 1 ≤ p.2 ∧ p.2 < s.params.waitBound) →
    ticks = (wave pulses).length - 1 + s.params.waitBound + s.params.decodeLatency →
    s.NoReset ticks → (∀ j < ticks, s.sampleAt j = ((wave pulses).drop 1)[j]?.getD true) →
    (s.run ticks).fsm = .idle ∧ (s.run ticks).n.toNat = pulses.length ∧
    (s.run ticks).result = (decodeSamples (pulses.map Prod.fst)).result ∧
    (s.run ticks).frame = (decodeSamples (pulses.map Prod.fst)).frame ∧
    (s.run ticks).peak.toNat = (decodeSamples (pulses.map Prod.fst)).peak ∧
    (s.run ticks).csum = (decodeSamples (pulses.map Prod.fst)).csum

/-- R144: a capture commits no later than the bound after its start, whatever the line and the host do. -/
def Obligations.EveryCaptureEndsWithinTheBound : Prop :=
  ∀ (s : State) (w : BusWord) (hi : BitVec 29) (k : BitVec 2), s.Inv → s.fsm = .idle → s.input.bus = some w →
    (decode w = .wrCtrlStartA hi ∧ k = 0b00 ∨ decode w = .wrCtrlStartB hi ∧ k = 0b01) →
    s.NoReset (1 + captureBound s.params k) →
    ∃ e, 1 ≤ e ∧ e ≤ captureBound s.params k ∧ (∀ j, 1 ≤ j → j ≤ e → (s.run j).fsm ≠ .idle) ∧
      (s.run (e + 1)).fsm = .idle ∧ (s.run (e + 1)).result ≠ .none

/-! ### The decoder (43_decode.md) -/

/-- R161: the peak is the largest of samples 1 to n-1, sample 0 excluded, and 0 where there is none. -/
def Obligations.PeakIsTheLargestDataSample : Prop :=
  ∀ samples : List Nat,
    (∀ d ∈ samples.drop 1, d ≤ peakOf samples) ∧ (2 ≤ samples.length → peakOf samples ∈ samples.drop 1) ∧
    (samples.length ≤ 1 → peakOf samples = 0)

/-- R162: the comparator agrees with `2*d - peak > 0` over the integers, a tie gives 0, and the peak's own sample gives 1
(samples are at least 1). -/
def Obligations.ThresholdIsExact : Prop :=
  ∀ peak d : Nat, (bitOf peak d = true ↔ (2 * d : Int) - peak > 0) ∧ (2 * d = peak → bitOf peak d = false) ∧
    (1 ≤ peak → bitOf peak peak = true)

/-- R163, R164, R53: byte k of the frame is the number its bits stand for, first received bit highest: bits 8k+1 to 8k+8 of
those that samples 1 to min(n-1, 40) give. In a short frame the last byte reached is right-aligned and the rest are 0; later
samples reach no byte. -/
def Obligations.FrameByteIsTheValueOfItsBits : Prop :=
  ∀ (samples : List Nat) (k : Fin 5),
    (frameOf samples)[k].toNat =
      bitsValue ((((((samples.drop 1).take 40).map (fun d => decide (2 * d > peakOf samples)))).drop (8 * k)).take 8)

/-- R54, R83: for a complete frame, FRAME0 bit 31 - j is the bit of sample j + 1, j = 0 to 31, FRAME1 bit 7 - j the bit of
sample 33 + j, j = 0 to 7, and frame bit 40 - i the bit of sample i, i = 1 to 40. -/
def Obligations.FrameRegisterBitsAreSampleBits : Prop :=
  ∀ (s : State) (samples : List Nat) (h : samples.length = 41), s.frame = frameOf samples →
    (∀ j : Fin 32, s.frame0Value.getLsbD (31 - j) = decide (2 * samples[j.val + 1] > peakOf samples)) ∧
    (∀ j : Fin 8, s.frame1Value.getLsbD (7 - j) = decide (2 * samples[33 + j.val] > peakOf samples)) ∧
    (∀ j : Fin 40, s.frameBits.getLsbD (40 - (j + 1)) = decide (2 * samples[j.val + 1] > peakOf samples))

/-- R165 to R168: the result of a decode is MALFORMED unless there are 41 samples, else CHECKSUM unless the fifth byte is the
sum of the first four modulo 256, else OK; CSUM_CALC is that sum. -/
def Obligations.DecodeResultFollowsLengthThenChecksum : Prop :=
  ∀ samples : List Nat,
    let d := decodeSamples samples
    let sum := (d.frame[0].toNat + d.frame[1].toNat + d.frame[2].toNat + d.frame[3].toNat) % 256
    d.csum.toNat = sum ∧ (d.result = .malformed ↔ samples.length ≠ 41) ∧
    (d.result = .checksum ↔ samples.length = 41 ∧ d.frame[4].toNat ≠ sum) ∧
    (d.result = .ok ↔ samples.length = 41 ∧ d.frame[4].toNat = sum)

/-- R164: samples after the 41st that do not exceed the peak leave the frame, the peak and the checksum as they are and make
the result MALFORMED. -/
def Obligations.SamplesBeyondTheFrameReachNoByte : Prop :=
  ∀ samples extra : List Nat, samples.length = 41 → extra ≠ [] → (∀ d ∈ extra, d ≤ peakOf samples) →
    let d := decodeSamples (samples ++ extra)
    d.frame = frameOf samples ∧ d.peak = peakOf samples ∧ d.csum = checksumOf (frameOf samples) ∧ d.result = .malformed

/-- R172: a complete row of samples, each at least 1, never decodes as the all-zero frame; and if its data samples are all
equal, it decodes as all ones and fails the checksum with CSUM_CALC 252. -/
def Obligations.AllZeroFrameNeverDecodes : Prop :=
  ∀ samples : List Nat, samples.length = 41 → (∀ d ∈ samples, 1 ≤ d) →
    (decodeSamples samples).frame ≠ Vector.replicate 5 0 ∧
    ((∀ d ∈ samples.drop 1, ∀ d' ∈ samples.drop 1, d = d') →
      (decodeSamples samples).frame = Vector.replicate 5 255 ∧ (decodeSamples samples).result = .checksum ∧
      (decodeSamples samples).csum = 252)

/-- R160, R170: two captures with the same sample count and the same recorded samples commit the same values, whatever the rest
of their states, their latencies, their hosts and their lines are. -/
def Obligations.CommitDependsOnTheSamplesAlone : Prop :=
  ∀ s s' t t' : State, s.fsm = .decode → s'.fsm = .decode → s.n = s'.n →
    (∀ i : Fin 100, i.val < s.n.toNat → s.buf[i] = s'.buf[i]) →
    s.input.rst = false → s'.input.rst = false → step s = .next t → step s' = .next t' → t.fsm = .idle → t'.fsm = .idle →
    t.result = t'.result ∧ t.frame = t'.frame ∧ t.peak = t'.peak ∧ t.csum = t'.csum

/-! ### Outside the block: the synchronizer (R45) -/

/-- R45: the sample of an edge is the level `line_in` had SYNC_STAGES edges before; until then, what the flip-flops held. -/
def Obligations.SynchronizerDelaysByItsStages : Prop :=
  ∀ stages levels : List Bool, synchronize stages levels = (stages ++ levels).take levels.length
end

