-- ==== Sys2Proof/Laws/State.lean ====
section
/-! SUPPORT. One lemma per field per update of State, and how the derived readings (`busy`, `input`, `sample`, `samples`)
follow from the fields, so that no later proof unfolds a record update. -/

namespace Sys2Proof.Machine

variable (s : State)

/-! ### `respond`: the bus response -/

@[simp] theorem State.respond_params (v : Word) (e : Bool) : (s.respond v e).params = s.params := rfl
@[simp] theorem State.respond_fsm (v : Word) (e : Bool) : (s.respond v e).fsm = s.fsm := rfl
@[simp] theorem State.respond_cnt (v : Word) (e : Bool) : (s.respond v e).cnt = s.cnt := rfl
@[simp] theorem State.respond_n (v : Word) (e : Bool) : (s.respond v e).n = s.n := rfl
@[simp] theorem State.respond_buf (v : Word) (e : Bool) : (s.respond v e).buf = s.buf := rfl
@[simp] theorem State.respond_variant (v : Word) (e : Bool) : (s.respond v e).variant = s.variant := rfl
@[simp] theorem State.respond_result (v : Word) (e : Bool) : (s.respond v e).result = s.result := rfl
@[simp] theorem State.respond_startIgnored (v : Word) (e : Bool) : (s.respond v e).startIgnored = s.startIgnored := rfl
@[simp] theorem State.respond_frame (v : Word) (e : Bool) : (s.respond v e).frame = s.frame := rfl
@[simp] theorem State.respond_peak (v : Word) (e : Bool) : (s.respond v e).peak = s.peak := rfl
@[simp] theorem State.respond_csum (v : Word) (e : Bool) : (s.respond v e).csum = s.csum := rfl
@[simp] theorem State.respond_busRdata (v : Word) (e : Bool) : (s.respond v e).busRdata = v := rfl
@[simp] theorem State.respond_busErr (v : Word) (e : Bool) : (s.respond v e).busErr = e := rfl
@[simp] theorem State.respond_pending (v : Word) (e : Bool) : (s.respond v e).pending = s.pending := rfl
@[simp] theorem State.respond_tick (v : Word) (e : Bool) : (s.respond v e).tick = s.tick := rfl

/-! ### `goto`: the move to another sequencer state -/

@[simp] theorem State.goto_params (f : Fsm) (c : Nat) : (s.goto f c).params = s.params := rfl
@[simp] theorem State.goto_fsm (f : Fsm) (c : Nat) : (s.goto f c).fsm = f := rfl
@[simp] theorem State.goto_cnt (f : Fsm) (c : Nat) : (s.goto f c).cnt = c := rfl
@[simp] theorem State.goto_n (f : Fsm) (c : Nat) : (s.goto f c).n = s.n := rfl
@[simp] theorem State.goto_buf (f : Fsm) (c : Nat) : (s.goto f c).buf = s.buf := rfl
@[simp] theorem State.goto_variant (f : Fsm) (c : Nat) : (s.goto f c).variant = s.variant := rfl
@[simp] theorem State.goto_result (f : Fsm) (c : Nat) : (s.goto f c).result = s.result := rfl
@[simp] theorem State.goto_startIgnored (f : Fsm) (c : Nat) : (s.goto f c).startIgnored = s.startIgnored := rfl
@[simp] theorem State.goto_frame (f : Fsm) (c : Nat) : (s.goto f c).frame = s.frame := rfl
@[simp] theorem State.goto_peak (f : Fsm) (c : Nat) : (s.goto f c).peak = s.peak := rfl
@[simp] theorem State.goto_csum (f : Fsm) (c : Nat) : (s.goto f c).csum = s.csum := rfl
@[simp] theorem State.goto_busRdata (f : Fsm) (c : Nat) : (s.goto f c).busRdata = s.busRdata := rfl
@[simp] theorem State.goto_busErr (f : Fsm) (c : Nat) : (s.goto f c).busErr = s.busErr := rfl
@[simp] theorem State.goto_pending (f : Fsm) (c : Nat) : (s.goto f c).pending = s.pending := rfl
@[simp] theorem State.goto_tick (f : Fsm) (c : Nat) : (s.goto f c).tick = s.tick := rfl

/-! ### `count`: one more tick in the state -/

@[simp] theorem State.count_params : (s.count).params = s.params := rfl
@[simp] theorem State.count_fsm : (s.count).fsm = s.fsm := rfl
@[simp] theorem State.count_cnt : (s.count).cnt = s.cnt + 1 := rfl
@[simp] theorem State.count_n : (s.count).n = s.n := rfl
@[simp] theorem State.count_buf : (s.count).buf = s.buf := rfl
@[simp] theorem State.count_variant : (s.count).variant = s.variant := rfl
@[simp] theorem State.count_result : (s.count).result = s.result := rfl
@[simp] theorem State.count_startIgnored : (s.count).startIgnored = s.startIgnored := rfl
@[simp] theorem State.count_frame : (s.count).frame = s.frame := rfl
@[simp] theorem State.count_peak : (s.count).peak = s.peak := rfl
@[simp] theorem State.count_csum : (s.count).csum = s.csum := rfl
@[simp] theorem State.count_busRdata : (s.count).busRdata = s.busRdata := rfl
@[simp] theorem State.count_busErr : (s.count).busErr = s.busErr := rfl
@[simp] theorem State.count_pending : (s.count).pending = s.pending := rfl
@[simp] theorem State.count_tick : (s.count).tick = s.tick := rfl

/-! ### `record`: the recording of a sample -/

@[simp] theorem State.record_params : (s.record).params = s.params := rfl
@[simp] theorem State.record_fsm : (s.record).fsm = s.fsm := rfl
@[simp] theorem State.record_cnt : (s.record).cnt = s.cnt := rfl
@[simp] theorem State.record_n : (s.record).n = s.n + 1 := rfl
@[simp] theorem State.record_buf : (s.record).buf = s.buf.setIfInBounds s.n.toNat (toSample s.params s.cnt) := rfl
@[simp] theorem State.record_variant : (s.record).variant = s.variant := rfl
@[simp] theorem State.record_result : (s.record).result = s.result := rfl
@[simp] theorem State.record_startIgnored : (s.record).startIgnored = s.startIgnored := rfl
@[simp] theorem State.record_frame : (s.record).frame = s.frame := rfl
@[simp] theorem State.record_peak : (s.record).peak = s.peak := rfl
@[simp] theorem State.record_csum : (s.record).csum = s.csum := rfl
@[simp] theorem State.record_busRdata : (s.record).busRdata = s.busRdata := rfl
@[simp] theorem State.record_busErr : (s.record).busErr = s.busErr := rfl
@[simp] theorem State.record_pending : (s.record).pending = s.pending := rfl
@[simp] theorem State.record_tick : (s.record).tick = s.tick := rfl

/-! ### `clearCapture`: what a start command clears -/

@[simp] theorem State.clearCapture_params : (s.clearCapture).params = s.params := rfl
@[simp] theorem State.clearCapture_fsm : (s.clearCapture).fsm = s.fsm := rfl
@[simp] theorem State.clearCapture_cnt : (s.clearCapture).cnt = s.cnt := rfl
@[simp] theorem State.clearCapture_n : (s.clearCapture).n = 0 := rfl
@[simp] theorem State.clearCapture_buf : (s.clearCapture).buf = s.buf := rfl
@[simp] theorem State.clearCapture_variant : (s.clearCapture).variant = s.variant := rfl
@[simp] theorem State.clearCapture_result : (s.clearCapture).result = s.result := rfl
@[simp] theorem State.clearCapture_startIgnored : (s.clearCapture).startIgnored = false := rfl
@[simp] theorem State.clearCapture_frame : (s.clearCapture).frame = Vector.replicate 5 0 := rfl
@[simp] theorem State.clearCapture_peak : (s.clearCapture).peak = 0 := rfl
@[simp] theorem State.clearCapture_csum : (s.clearCapture).csum = 0 := rfl
@[simp] theorem State.clearCapture_busRdata : (s.clearCapture).busRdata = s.busRdata := rfl
@[simp] theorem State.clearCapture_busErr : (s.clearCapture).busErr = s.busErr := rfl
@[simp] theorem State.clearCapture_pending : (s.clearCapture).pending = s.pending := rfl
@[simp] theorem State.clearCapture_tick : (s.clearCapture).tick = s.tick := rfl

/-! ### `acceptStart`: an accepted start -/

@[simp] theorem State.acceptStart_params (v : BitVec 2) : (s.acceptStart v).params = s.params := rfl
@[simp] theorem State.acceptStart_fsm (v : BitVec 2) : (s.acceptStart v).fsm = .wakeHigh := rfl
@[simp] theorem State.acceptStart_cnt (v : BitVec 2) : (s.acceptStart v).cnt = 0 := rfl
@[simp] theorem State.acceptStart_n (v : BitVec 2) : (s.acceptStart v).n = 0 := rfl
@[simp] theorem State.acceptStart_buf (v : BitVec 2) : (s.acceptStart v).buf = s.buf := rfl
@[simp] theorem State.acceptStart_variant (v : BitVec 2) : (s.acceptStart v).variant = v := rfl
@[simp] theorem State.acceptStart_result (v : BitVec 2) : (s.acceptStart v).result = .none := rfl
@[simp] theorem State.acceptStart_startIgnored (v : BitVec 2) : (s.acceptStart v).startIgnored = false := rfl
@[simp] theorem State.acceptStart_frame (v : BitVec 2) : (s.acceptStart v).frame = Vector.replicate 5 0 := rfl
@[simp] theorem State.acceptStart_peak (v : BitVec 2) : (s.acceptStart v).peak = 0 := rfl
@[simp] theorem State.acceptStart_csum (v : BitVec 2) : (s.acceptStart v).csum = 0 := rfl
@[simp] theorem State.acceptStart_busRdata (v : BitVec 2) : (s.acceptStart v).busRdata = s.busRdata := rfl
@[simp] theorem State.acceptStart_busErr (v : BitVec 2) : (s.acceptStart v).busErr = s.busErr := rfl
@[simp] theorem State.acceptStart_pending (v : BitVec 2) : (s.acceptStart v).pending = s.pending := rfl
@[simp] theorem State.acceptStart_tick (v : BitVec 2) : (s.acceptStart v).tick = s.tick := rfl

/-! ### `rejectStart`: a rejected start -/

@[simp] theorem State.rejectStart_params (v : BitVec 2) : (s.rejectStart v).params = s.params := rfl
@[simp] theorem State.rejectStart_fsm (v : BitVec 2) : (s.rejectStart v).fsm = s.fsm := rfl
@[simp] theorem State.rejectStart_cnt (v : BitVec 2) : (s.rejectStart v).cnt = s.cnt := rfl
@[simp] theorem State.rejectStart_n (v : BitVec 2) : (s.rejectStart v).n = 0 := rfl
@[simp] theorem State.rejectStart_buf (v : BitVec 2) : (s.rejectStart v).buf = s.buf := rfl
@[simp] theorem State.rejectStart_variant (v : BitVec 2) : (s.rejectStart v).variant = v := rfl
@[simp] theorem State.rejectStart_result (v : BitVec 2) : (s.rejectStart v).result = .unsupported := rfl
@[simp] theorem State.rejectStart_startIgnored (v : BitVec 2) : (s.rejectStart v).startIgnored = false := rfl
@[simp] theorem State.rejectStart_frame (v : BitVec 2) : (s.rejectStart v).frame = Vector.replicate 5 0 := rfl
@[simp] theorem State.rejectStart_peak (v : BitVec 2) : (s.rejectStart v).peak = 0 := rfl
@[simp] theorem State.rejectStart_csum (v : BitVec 2) : (s.rejectStart v).csum = 0 := rfl
@[simp] theorem State.rejectStart_busRdata (v : BitVec 2) : (s.rejectStart v).busRdata = s.busRdata := rfl
@[simp] theorem State.rejectStart_busErr (v : BitVec 2) : (s.rejectStart v).busErr = s.busErr := rfl
@[simp] theorem State.rejectStart_pending (v : BitVec 2) : (s.rejectStart v).pending = s.pending := rfl
@[simp] theorem State.rejectStart_tick (v : BitVec 2) : (s.rejectStart v).tick = s.tick := rfl

/-! ### `finish`: the end of a capture -/

@[simp] theorem State.finish_params (r : Result) : (s.finish r).params = s.params := rfl
@[simp] theorem State.finish_fsm (r : Result) : (s.finish r).fsm = .idle := rfl
@[simp] theorem State.finish_cnt (r : Result) : (s.finish r).cnt = 0 := rfl
@[simp] theorem State.finish_n (r : Result) : (s.finish r).n = s.n := rfl
@[simp] theorem State.finish_buf (r : Result) : (s.finish r).buf = s.buf := rfl
@[simp] theorem State.finish_variant (r : Result) : (s.finish r).variant = s.variant := rfl
@[simp] theorem State.finish_result (r : Result) : (s.finish r).result = r := rfl
@[simp] theorem State.finish_startIgnored (r : Result) : (s.finish r).startIgnored = s.startIgnored := rfl
@[simp] theorem State.finish_frame (r : Result) : (s.finish r).frame = s.frame := rfl
@[simp] theorem State.finish_peak (r : Result) : (s.finish r).peak = s.peak := rfl
@[simp] theorem State.finish_csum (r : Result) : (s.finish r).csum = s.csum := rfl
@[simp] theorem State.finish_busRdata (r : Result) : (s.finish r).busRdata = s.busRdata := rfl
@[simp] theorem State.finish_busErr (r : Result) : (s.finish r).busErr = s.busErr := rfl
@[simp] theorem State.finish_pending (r : Result) : (s.finish r).pending = s.pending := rfl
@[simp] theorem State.finish_tick (r : Result) : (s.finish r).tick = s.tick := rfl

/-! ### `commit`: the commit of a decode -/

@[simp] theorem State.commit_params (d : Decoded) : (s.commit d).params = s.params := rfl
@[simp] theorem State.commit_fsm (d : Decoded) : (s.commit d).fsm = .idle := rfl
@[simp] theorem State.commit_cnt (d : Decoded) : (s.commit d).cnt = 0 := rfl
@[simp] theorem State.commit_n (d : Decoded) : (s.commit d).n = s.n := rfl
@[simp] theorem State.commit_buf (d : Decoded) : (s.commit d).buf = s.buf := rfl
@[simp] theorem State.commit_variant (d : Decoded) : (s.commit d).variant = s.variant := rfl
@[simp] theorem State.commit_result (d : Decoded) : (s.commit d).result = d.result := rfl
@[simp] theorem State.commit_startIgnored (d : Decoded) : (s.commit d).startIgnored = s.startIgnored := rfl
@[simp] theorem State.commit_frame (d : Decoded) : (s.commit d).frame = d.frame := rfl
@[simp] theorem State.commit_peak (d : Decoded) : (s.commit d).peak = BitVec.ofNat 16 d.peak := rfl
@[simp] theorem State.commit_csum (d : Decoded) : (s.commit d).csum = d.csum := rfl
@[simp] theorem State.commit_busRdata (d : Decoded) : (s.commit d).busRdata = s.busRdata := rfl
@[simp] theorem State.commit_busErr (d : Decoded) : (s.commit d).busErr = s.busErr := rfl
@[simp] theorem State.commit_pending (d : Decoded) : (s.commit d).pending = s.pending := rfl
@[simp] theorem State.commit_tick (d : Decoded) : (s.commit d).tick = s.tick := rfl

/-! ### `resetEdge`: a reset edge -/

@[simp] theorem State.resetEdge_params : (s.resetEdge).params = s.params := rfl
@[simp] theorem State.resetEdge_fsm : (s.resetEdge).fsm = .idle := rfl
@[simp] theorem State.resetEdge_cnt : (s.resetEdge).cnt = 0 := rfl
@[simp] theorem State.resetEdge_n : (s.resetEdge).n = 0 := rfl
@[simp] theorem State.resetEdge_buf : (s.resetEdge).buf = s.buf := rfl
@[simp] theorem State.resetEdge_variant : (s.resetEdge).variant = 0b00#2 := rfl
@[simp] theorem State.resetEdge_result : (s.resetEdge).result = .none := rfl
@[simp] theorem State.resetEdge_startIgnored : (s.resetEdge).startIgnored = false := rfl
@[simp] theorem State.resetEdge_frame : (s.resetEdge).frame = Vector.replicate 5 0 := rfl
@[simp] theorem State.resetEdge_peak : (s.resetEdge).peak = 0 := rfl
@[simp] theorem State.resetEdge_csum : (s.resetEdge).csum = 0 := rfl
@[simp] theorem State.resetEdge_busRdata : (s.resetEdge).busRdata = 0 := rfl
@[simp] theorem State.resetEdge_busErr : (s.resetEdge).busErr = false := rfl
@[simp] theorem State.resetEdge_pending : (s.resetEdge).pending = s.pending := rfl
@[simp] theorem State.resetEdge_tick : (s.resetEdge).tick = s.tick := rfl

/-! ### `consume`: the use of a tick's inputs -/

@[simp] theorem State.consume_params : (s.consume).params = s.params := rfl
@[simp] theorem State.consume_fsm : (s.consume).fsm = s.fsm := rfl
@[simp] theorem State.consume_cnt : (s.consume).cnt = s.cnt := rfl
@[simp] theorem State.consume_n : (s.consume).n = s.n := rfl
@[simp] theorem State.consume_buf : (s.consume).buf = s.buf := rfl
@[simp] theorem State.consume_variant : (s.consume).variant = s.variant := rfl
@[simp] theorem State.consume_result : (s.consume).result = s.result := rfl
@[simp] theorem State.consume_startIgnored : (s.consume).startIgnored = s.startIgnored := rfl
@[simp] theorem State.consume_frame : (s.consume).frame = s.frame := rfl
@[simp] theorem State.consume_peak : (s.consume).peak = s.peak := rfl
@[simp] theorem State.consume_csum : (s.consume).csum = s.csum := rfl
@[simp] theorem State.consume_busRdata : (s.consume).busRdata = s.busRdata := rfl
@[simp] theorem State.consume_busErr : (s.consume).busErr = s.busErr := rfl
@[simp] theorem State.consume_pending : (s.consume).pending = s.pending.tail := rfl
@[simp] theorem State.consume_tick : (s.consume).tick = s.tick + 1 := rfl

/-! ### A CTRL write while busy: the one conditional update -/

@[simp] theorem State.ctrlWriteBusy_params (b : Bool) : (s.ctrlWriteBusy b).params = s.params := by cases b <;> rfl
@[simp] theorem State.ctrlWriteBusy_fsm (b : Bool) : (s.ctrlWriteBusy b).fsm = s.fsm := by cases b <;> rfl
@[simp] theorem State.ctrlWriteBusy_cnt (b : Bool) : (s.ctrlWriteBusy b).cnt = s.cnt := by cases b <;> rfl
@[simp] theorem State.ctrlWriteBusy_n (b : Bool) : (s.ctrlWriteBusy b).n = s.n := by cases b <;> rfl
@[simp] theorem State.ctrlWriteBusy_buf (b : Bool) : (s.ctrlWriteBusy b).buf = s.buf := by cases b <;> rfl
@[simp] theorem State.ctrlWriteBusy_variant (b : Bool) : (s.ctrlWriteBusy b).variant = s.variant := by cases b <;> rfl
@[simp] theorem State.ctrlWriteBusy_result (b : Bool) : (s.ctrlWriteBusy b).result = s.result := by cases b <;> rfl
@[simp] theorem State.ctrlWriteBusy_startIgnored (b : Bool) : (s.ctrlWriteBusy b).startIgnored = (b || s.startIgnored) := by
  cases b <;> rfl
@[simp] theorem State.ctrlWriteBusy_frame (b : Bool) : (s.ctrlWriteBusy b).frame = s.frame := by cases b <;> rfl
@[simp] theorem State.ctrlWriteBusy_peak (b : Bool) : (s.ctrlWriteBusy b).peak = s.peak := by cases b <;> rfl
@[simp] theorem State.ctrlWriteBusy_csum (b : Bool) : (s.ctrlWriteBusy b).csum = s.csum := by cases b <;> rfl
@[simp] theorem State.ctrlWriteBusy_busRdata (b : Bool) : (s.ctrlWriteBusy b).busRdata = s.busRdata := by cases b <;> rfl
@[simp] theorem State.ctrlWriteBusy_busErr (b : Bool) : (s.ctrlWriteBusy b).busErr = s.busErr := by cases b <;> rfl
@[simp] theorem State.ctrlWriteBusy_pending (b : Bool) : (s.ctrlWriteBusy b).pending = s.pending := by cases b <;> rfl
@[simp] theorem State.ctrlWriteBusy_tick (b : Bool) : (s.ctrlWriteBusy b).tick = s.tick := by cases b <;> rfl

/-! ### Operations that are another one by name -/

@[simp] theorem State.busError_eq : s.busError = s.respond 0 true := rfl
@[simp] theorem State.noTransaction_eq : s.noTransaction = s.respond 0 false := rfl
@[simp] theorem State.ignoreWrite_eq : s.ignoreWrite = s.respond 0 false := rfl

/-! ### Derived readings -/

theorem State.busy_eq_true_iff : s.busy = true ↔ s.fsm ≠ .idle := by simp [State.busy]

theorem State.busy_eq_false_iff : s.busy = false ↔ s.fsm = .idle := by simp [State.busy]

/-- BUSY is a function of `fsm` alone. -/
theorem State.busy_congr (t : State) (h : t.fsm = s.fsm) : t.busy = s.busy := by simp [State.busy, h]

/-- The samples are a function of `n` and `buf` alone (R170). -/
theorem State.samples_congr (t : State) (hn : t.n = s.n) (hb : t.buf = s.buf) : t.samples = s.samples := by
  simp [State.samples, hn, hb]

@[simp] theorem State.respond_busy (v : Word) (e : Bool) : (s.respond v e).busy = s.busy := rfl
@[simp] theorem State.consume_busy : s.consume.busy = s.busy := rfl
@[simp] theorem State.respond_samples (v : Word) (e : Bool) : (s.respond v e).samples = s.samples := rfl
@[simp] theorem State.consume_samples : s.consume.samples = s.samples := rfl

/-- A released wire follows the sensor, and else the pull-up (R63). -/
theorem State.wireLevel_released (h : s.lineOe = false) (sensor : Option Bool) : s.wireLevel sensor = sensor.getD true := by
  simp [State.wireLevel, h]

/-- A wire that the block alone drives has the block's level (R43). -/
theorem State.wireLevel_driven (h : s.lineOe = true) : s.wireLevel none = s.lineOut := by
  simp [State.wireLevel, h]

/-- There are at most 100 samples, as many as `n` says. -/
theorem State.samples_length : s.samples.length = min s.n.toNat 100 := by simp [State.samples]

/-- Sample i is entry i of the buffer (R25). -/
theorem State.samples_getElem (i : Nat) (h : i < s.samples.length) :
    s.samples[i] = (s.buf[i]'(by simp [State.samples] at h; omega)).toNat := by
  simp [State.samples]

end Sys2Proof.Machine
end

