-- ==== Sys2Proof/Laws/Buffer.lean ====
section
/-! SUPPORT. The sample buffer: what a count becomes as a sample, and what recording one does to the row of samples. -/

namespace Sys2Proof.Machine

/-- A count that fits COUNT_WIDTH is kept as it is (log 6). -/
theorem toSample_toNat (p : Params) (c : Nat) (hc : c < 2 ^ p.countWidth) (hw : p.countWidth ≤ 16) :
    (toSample p c).toNat = c := by
  have h16 : c < 2 ^ 16 := Nat.lt_of_lt_of_le hc (Nat.pow_le_pow_right (by omega) hw)
  rw [toSample, BitVec.toNat_ofNat, Nat.mod_eq_of_lt hc, Nat.mod_eq_of_lt h16]

/-- Any sample the block stores fits COUNT_WIDTH bits (R21). -/
theorem toSample_lt (p : Params) (c : Nat) (hw : p.countWidth ≤ 16) : (toSample p c).toNat < 2 ^ p.countWidth := by
  have h : c % 2 ^ p.countWidth < 2 ^ p.countWidth := Nat.mod_lt _ (by positivity)
  have h16 : c % 2 ^ p.countWidth < 2 ^ 16 := Nat.lt_of_lt_of_le h (Nat.pow_le_pow_right (by omega) hw)
  rw [toSample, BitVec.toNat_ofNat, Nat.mod_eq_of_lt h16]
  exact h

/-- `n` counts one more as long as the buffer is not full (R24). -/
theorem State.record_n_toNat (s : State) (h : s.n.toNat < 100) : s.record.n.toNat = s.n.toNat + 1 := by
  simp [BitVec.toNat_add]
  omega

/-- Recording writes entry n and no other (R25). -/
theorem State.record_buf_other (s : State) (i : Fin 100) (h : i.val ≠ s.n.toNat) : s.record.buf[i] = s.buf[i] := by
  simp [Ne.symm h]

/-- Recording writes entry n with the count (R137). -/
theorem State.record_buf_at (s : State) (i : Fin 100) (h : i.val = s.n.toNat) :
    s.record.buf[i] = toSample s.params s.cnt := by
  simp [h]

/-- Recording appends one sample to the row (R137). -/
theorem State.record_samples (s : State) (h : s.n.toNat < 100) :
    s.record.samples = s.samples ++ [(toSample s.params s.cnt).toNat] := by
  have hn := s.record_n_toNat h
  apply List.ext_getElem
  · rw [List.length_append, State.samples_length, State.samples_length, hn, List.length_singleton]
    omega
  · intro i h1 h2
    rw [State.samples_getElem]
    have hi : i < s.n.toNat + 1 := by
      rw [State.samples_length, hn] at h1
      omega
    have hl := s.samples_length
    by_cases hin : i < s.n.toNat
    · rw [List.getElem_append_left (by omega), State.samples_getElem]
      exact congrArg BitVec.toNat (s.record_buf_other ⟨i, by omega⟩ (by simp; omega))
    · have hi' : i = s.n.toNat := by omega
      rw [List.getElem_append_right (by omega), List.getElem_singleton]
      exact congrArg BitVec.toNat (s.record_buf_at ⟨i, by omega⟩ hi')

end Sys2Proof.Machine
end

