-- ==== Sys2Proof/Laws/Encoding.lean ====
section
/-! SUPPORT. The fields of a transaction word and of a CTRL write, put together and taken apart again (R70, R73), and how the
decoder and R76's rows read a word given by its fields. -/

namespace Sys2Proof

@[simp] theorem BusWord.ofPorts_w (w : Bool) (a : Offset) (d : Word) : BusWord.w (BusWord.ofPorts w a d) = w := by
  rw [BusWord.w, BusWord.ofPorts, BitVec.getLsbD_append, BitVec.getLsbD_append]
  simp

@[simp] theorem BusWord.ofPorts_a (w : Bool) (a : Offset) (d : Word) : BusWord.a (BusWord.ofPorts w a d) = a := by
  ext i hi
  simp only [BusWord.a, BusWord.ofPorts, BitVec.getElem_extractLsb', BitVec.getLsbD_append]
  rw [if_neg (by omega), if_pos (by omega)]
  simp [← BitVec.getLsbD_eq_getElem, show 32 + i - 32 = i by omega]

@[simp] theorem BusWord.ofPorts_d (w : Bool) (a : Offset) (d : Word) : BusWord.d (BusWord.ofPorts w a d) = d := by
  ext i hi
  simp only [BusWord.d, BusWord.ofPorts, BitVec.getElem_extractLsb', BitVec.getLsbD_append]
  rw [if_pos (by omega)]
  simp [← BitVec.getLsbD_eq_getElem]

/-- Every word is the word of its own fields (R70). -/
theorem BusWord.ofPorts_fields (t : BusWord) : BusWord.ofPorts t.w t.a t.d = t := by
  ext i hi
  simp only [← BitVec.getLsbD_eq_getElem, BusWord.ofPorts, BusWord.w, BusWord.a, BusWord.d, BitVec.getLsbD_append,
    BitVec.getLsbD_extractLsb', BitVec.getLsbD_ofBool]
  by_cases h : i < 32
  · simp [h]
  · by_cases h' : i < 37
    · rw [if_neg h, if_pos (by omega)]
      simp [show i - 32 < 5 by omega, show 32 + (i - 32) = i by omega]
    · have : i = 37 := by omega
      subst this
      simp

@[simp] theorem ctrlStart_ctrlData (hi : BitVec 29) (v : BitVec 2) (b : Bool) : ctrlStart (ctrlData hi v b) = b := by
  rw [ctrlStart, ctrlData, BitVec.getLsbD_append]
  simp

@[simp] theorem ctrlVariant_ctrlData (hi : BitVec 29) (v : BitVec 2) (b : Bool) : ctrlVariant (ctrlData hi v b) = v := by
  ext i hi'
  simp only [ctrlVariant, ctrlData, BitVec.getElem_extractLsb', BitVec.getLsbD_append]
  rw [if_neg (by omega), if_pos (by omega)]
  simp [← BitVec.getLsbD_eq_getElem, show 1 + i - 1 = i by omega]

@[simp] theorem ctrlIgnored_ctrlData (hi : BitVec 29) (v : BitVec 2) (b : Bool) : ctrlIgnored (ctrlData hi v b) = hi := by
  ext i hi'
  simp only [ctrlIgnored, ctrlData, BitVec.getElem_extractLsb', BitVec.getLsbD_append]
  rw [if_neg (by omega), if_neg (by omega)]
  simp [← BitVec.getLsbD_eq_getElem]

/-- Every CTRL write value is the value of its own fields (R73). -/
theorem ctrlData_fields (d : Word) : ctrlData (ctrlIgnored d) (ctrlVariant d) (ctrlStart d) = d := by
  ext i hi
  simp only [← BitVec.getLsbD_eq_getElem, ctrlData, ctrlIgnored, ctrlVariant, ctrlStart, BitVec.getLsbD_append,
    BitVec.getLsbD_extractLsb', BitVec.getLsbD_ofBool]
  by_cases h : i < 1
  · have : i = 0 := by omega
    subst this
    simp
  · by_cases h' : i < 3
    · rw [if_neg h, if_pos (by omega)]
      simp [show i - 1 < 2 by omega, show 1 + (i - 1) = i by omega]
    · rw [if_neg h, if_neg (by omega)]
      simp [show i - 1 - 2 < 29 by omega, show 3 + (i - 1 - 2) = i by omega]

@[simp] theorem decode_ofPorts (w : Bool) (a : Offset) (d : Word) : decode (BusWord.ofPorts w a d) = decodePorts w a d := by
  simp [decode]

/-- Masking a word masks its fields. -/
theorem BusWord.ofPorts_and (w w' : Bool) (a a' : Offset) (d d' : Word) :
    BusWord.ofPorts w a d &&& BusWord.ofPorts w' a' d' = BusWord.ofPorts (w && w') (a &&& a') (d &&& d') := by
  ext i hi
  simp only [← BitVec.getLsbD_eq_getElem, BusWord.ofPorts, BitVec.getLsbD_and, BitVec.getLsbD_append,
    BitVec.getLsbD_ofBool]
  by_cases h : i < 32
  · simp [h]
  · by_cases h' : i - 32 < 5
    · simp [h, h']
    · simp only [h, h', if_false]
      cases w <;> cases w' <;> simp

/-- Two words are equal exactly when their fields are. -/
theorem BusWord.ofPorts_inj (w w' : Bool) (a a' : Offset) (d d' : Word) :
    BusWord.ofPorts w a d = BusWord.ofPorts w' a' d' ↔ w = w' ∧ a = a' ∧ d = d' := by
  constructor
  · intro h
    refine ⟨?_, ?_, ?_⟩
    · simpa using congrArg BusWord.w h
    · simpa using congrArg BusWord.a h
    · simpa using congrArg BusWord.d h
  · rintro ⟨rfl, rfl, rfl⟩
    rfl

/-! ### Fields of a concatenation: the three ways a field lies in `x ++ y` -/

/-- The field is in the lower part. -/
theorem field_append_low {n m : Nat} (x : BitVec n) (y : BitVec m) (k l : Nat) (h : k + l ≤ m) :
    (x ++ y).extractLsb' k l = y.extractLsb' k l := by
  ext i hi
  simp only [BitVec.getElem_extractLsb', BitVec.getLsbD_append]
  rw [if_pos (by omega)]

/-- The field is in the upper part. -/
theorem field_append_high {n m : Nat} (x : BitVec n) (y : BitVec m) (k l : Nat) (h : m ≤ k) :
    (x ++ y).extractLsb' k l = x.extractLsb' (k - m) l := by
  ext i hi
  simp only [BitVec.getElem_extractLsb', BitVec.getLsbD_append]
  rw [if_neg (by omega), show k + i - m = k - m + i by omega]

/-- The field is the whole of a part. -/
theorem field_whole {n : Nat} (x : BitVec n) : x.extractLsb' 0 n = x := by
  ext i hi
  simp [← BitVec.getLsbD_eq_getElem]

/-! ### The eight aligned offsets, the misaligned ones, and the four variant codes -/

/-- An aligned offset is one of the eight of R55. -/
theorem Offset.aligned_cases : ∀ a : BitVec 5, a.getLsbD 0 = false → a.getLsbD 1 = false →
    a = 0x00 ∨ a = 0x04 ∨ a = 0x08 ∨ a = 0x0C ∨ a = 0x10 ∨ a = 0x14 ∨ a = 0x18 ∨ a = 0x1C := by decide

/-- The operand check of MISALIGNED_A0 is A[0] = 1. -/
theorem Offset.low_bit : ∀ a : BitVec 5, (a.extractLsb' 0 1 == 0b1#1) = a.getLsbD 0 := by decide

/-- The operand check of MISALIGNED_A1 is A[1:0] = 0b10. -/
theorem Offset.low_bits : ∀ a : BitVec 5, (a.extractLsb' 0 2 == 0b10#2) = (a.getLsbD 1 && !a.getLsbD 0) := by decide

/-- Aligned means both low bits are 0 (R52). -/
theorem Offset.aligned_iff : ∀ a : BitVec 5, a.extractLsb' 0 2 = 0 ↔ a.getLsbD 0 = false ∧ a.getLsbD 1 = false := by
  decide

/-- A variant code is one of four (R74). -/
theorem variant_cases : ∀ k : BitVec 2, k = 0b00 ∨ k = 0b01 ∨ k = 0b10 ∨ k = 0b11 := by decide

/-- The transactions of aligned ports' values, offset by offset. -/
theorem decodePorts_aligned (w : Bool) (a : Offset) (d : Word) (h0 : a.getLsbD 0 = false) (h1 : a.getLsbD 1 = false) :
    decodePorts w a d = if w then decodeWrite a d else decodeRead a d := by
  unfold decodePorts
  rw [h0, h1]
  simp

/-- No row of R76 looks at D[31:3], so a row's choice is settled by W, A and D[2:0] alone. -/
theorem OpcodeRow.selects_ignores_high (r : OpcodeRow) (hr : r ∈ opcodeMap) (w : Bool) (a : Offset) (hi : BitVec 29)
    (k : BitVec 2) (b : Bool) :
    r.selects (BusWord.ofPorts w a (ctrlData hi k b)) = r.selects (BusWord.ofPorts w a (ctrlData 0 k b)) := by
  have hm : ctrlIgnored r.mask.d = 0 := by
    revert r
    decide
  have hand : ctrlData hi k b &&& r.mask.d = ctrlData 0 k b &&& r.mask.d := by
    rw [← ctrlData_fields r.mask.d, hm]
    ext i h
    simp only [← BitVec.getLsbD_eq_getElem, ctrlData, BitVec.getLsbD_and, BitVec.getLsbD_append]
    split_ifs <;> simp
  unfold OpcodeRow.selects
  rw [← BusWord.ofPorts_fields r.mask, BusWord.ofPorts_and, BusWord.ofPorts_and, hand]

end Sys2Proof
end

