-- ==== Sys2Proof/Laws/Exec.lean ====
section
/-! SUPPORT. What a transaction can do, said once: `exec_idle` for an idle block, `exec_busy` for one that runs a capture, and
`exec_word` by the fields of the transaction's word. Every meaning answers a next state, so a proof about `exec` starts from
one of these. -/

namespace Sys2Proof.Machine

/-- While a capture runs, a transaction does nothing but answer and, at most, note a start (R110, R115). -/
theorem exec_busy (i : Instr) (s : State) (h : s.busy = true) :
    ∃ b v e, exec i s = .next ((s.ctrlWriteBusy b).respond v e) := by
  cases i <;>
    first
      | exact ⟨false, _, _, rfl⟩
      | exact ⟨_, _, _, by simp [exec, execWrCtrlCfg, execWrCtrlStartA, execWrCtrlStartB, execWrCtrlStartRsv, h]; rfl⟩

/-- While the block is idle, a transaction answers and, at most, stores a variant, starts a capture, or is a rejected start
(R58, R107 to R109). -/
theorem exec_idle (i : Instr) (s : State) (h : s.busy = false) :
    ∃ v e, exec i s = .next (s.respond v e) ∨ (∃ k, exec i s = .next (({ s with variant := k } : State).respond v e)) ∨
      (∃ k, (k = 0b00#2 ∨ k = 0b01#2) ∧ exec i s = .next ((s.acceptStart k).respond v e)) ∨
      (∃ k, exec i s = .next ((s.rejectStart k).respond v e)) := by
  cases i with
  | wrCtrlCfg hi k => exact ⟨0, false, .inr (.inl ⟨k, by simp [exec, execWrCtrlCfg, h]⟩)⟩
  | wrCtrlStartA hi => exact ⟨0, false, .inr (.inr (.inl ⟨_, .inl rfl, by simp [exec, execWrCtrlStartA, h]⟩))⟩
  | wrCtrlStartB hi => exact ⟨0, false, .inr (.inr (.inl ⟨_, .inr rfl, by simp [exec, execWrCtrlStartB, h]⟩))⟩
  | wrCtrlStartRsv hi k => exact ⟨0, false, .inr (.inr (.inr ⟨k, by simp [exec, execWrCtrlStartRsv, h]⟩))⟩
  | _ => exact ⟨_, _, .inl rfl⟩

/-- What the transaction of a word does, by the word's fields (R58, R73, R107 to R113). -/
inductive WordEffect (t : BusWord) (s : State) : State → Prop where
  | answer (v : Word) (e : Bool) (hc : isCtrlWrite t = false) : WordEffect t s (s.respond v e)
  | busyWrite (v : Word) (e : Bool) (hc : isCtrlWrite t = true) (hb : s.busy = true) :
      WordEffect t s ((s.ctrlWriteBusy (isStart t)).respond v e)
  | config (v : Word) (e : Bool) (hc : isCtrlWrite t = true) (hb : s.busy = false) (hs : isStart t = false) :
      WordEffect t s (({ s with variant := ctrlVariant t.d } : State).respond v e)
  | accept (v : Word) (e : Bool) (hc : isCtrlWrite t = true) (hb : s.busy = false) (hs : isStart t = true)
      (hk : ctrlVariant t.d = 0b00#2 ∨ ctrlVariant t.d = 0b01#2) :
      WordEffect t s ((s.acceptStart (ctrlVariant t.d)).respond v e)
  | reject (v : Word) (e : Bool) (hc : isCtrlWrite t = true) (hb : s.busy = false) (hs : isStart t = true)
      (hk : ctrlVariant t.d = 0b10#2 ∨ ctrlVariant t.d = 0b11#2) :
      WordEffect t s ((s.rejectStart (ctrlVariant t.d)).respond v e)

/-- A word that is no CTRL write only answers (R58). -/
theorem exec_no_ctrl_write (t : BusWord) (s : State) (hc : isCtrlWrite t = false) :
    ∃ v e, exec (decode t) s = .next (s.respond v e) := by
  have h : t.w = false ∨ t.a ≠ 0x00#5 := by
    cases hw : t.w <;> simp_all [isCtrlWrite]
  rw [decode]
  generalize t.d = d
  generalize t.w = w at *
  generalize t.a = a at *
  unfold decodePorts
  split_ifs with h0 h1 h2
  · exact ⟨_, _, rfl⟩
  · exact ⟨_, _, rfl⟩
  · have ha : a ≠ 0x00#5 := by simpa [h2] using h
    unfold decodeWrite
    simp only [if_neg ha]
    split_ifs <;> exact ⟨_, _, rfl⟩
  · unfold decodeRead
    split_ifs <;> exact ⟨_, _, rfl⟩

/-- A CTRL write is decoded by its data (R75). -/
theorem decode_ctrl_write (t : BusWord) (hc : isCtrlWrite t = true) : decode t = decodeCtrlWrite t.d := by
  obtain ⟨hw, ha⟩ : t.w = true ∧ t.a = 0x00#5 := by simpa [isCtrlWrite] using hc
  rw [decode, hw, ha]
  simp [decodePorts, decodeWrite]

/-- The inversion lemma of the bus: a word does one of these things and nothing else. -/
theorem exec_word (t : BusWord) (s : State) : ∃ u, exec (decode t) s = .next u ∧ WordEffect t s u := by
  cases hc : isCtrlWrite t with
  | false =>
    obtain ⟨v, e, h⟩ := exec_no_ctrl_write t s hc
    exact ⟨_, h, .answer v e hc⟩
  | true =>
    have hs : isStart t = ctrlStart t.d := by simp [isStart, hc]
    rw [decode_ctrl_write t hc, decodeCtrlWrite]
    cases hb : s.busy with
    | true =>
      refine ⟨_, ?_, .busyWrite 0 false hc hb⟩
      rw [hs]
      cases ctrlStart t.d
      · simp [exec, execWrCtrlCfg, hb]
      · split_ifs <;> simp_all [exec, execWrCtrlStartA, execWrCtrlStartB, execWrCtrlStartRsv]
    | false =>
      cases hst : ctrlStart t.d with
      | false => exact ⟨_, by simp [exec, execWrCtrlCfg, hb], .config 0 false hc hb (hs.trans hst)⟩
      | true =>
        rcases variant_cases (ctrlVariant t.d) with h | h | h | h
        · exact ⟨_, by simp [h, exec, execWrCtrlStartA, hb], .accept 0 false hc hb (hs.trans hst) (.inl h)⟩
        · exact ⟨_, by simp [h, exec, execWrCtrlStartB, hb], .accept 0 false hc hb (hs.trans hst) (.inr h)⟩
        · exact ⟨_, by simp [h, exec, execWrCtrlStartRsv, hb], .reject 0 false hc hb (hs.trans hst) (.inl h)⟩
        · exact ⟨_, by simp [h, exec, execWrCtrlStartRsv, hb], .reject 0 false hc hb (hs.trans hst) (.inr h)⟩

/-- A transaction never touches the instance's parameters, the sample buffer or the inputs to come. -/
theorem exec_outside (i : Instr) (s t : State) (h : exec i s = .next t) :
    t.params = s.params ∧ t.buf = s.buf ∧ t.pending = s.pending ∧ t.tick = s.tick := by
  cases hb : s.busy with
  | true =>
    obtain ⟨b, v, e, hx⟩ := exec_busy i s hb
    obtain rfl : _ = t := by simpa [hx] using h
    simp
  | false =>
    obtain ⟨v, e, hx | ⟨k, hx⟩ | ⟨k, -, hx⟩ | ⟨k, hx⟩⟩ := exec_idle i s hb <;>
    · obtain rfl : _ = t := by simpa [hx] using h
      simp

end Sys2Proof.Machine
end

