-- ==== Sys2Proof/Laws/FrameDecoder.lean ====
section
/-! SUPPORT. The decode's parts: how the frame fills, bit by bit and byte by byte, and the result's cases. -/

namespace Sys2Proof.Machine

/-- Filling with two rows of bits one after the other. -/
theorem fillFrame_append (xs ys : List Bool) (k : Nat) (f : Vector Byte 5) :
    fillFrame (xs ++ ys) k f = fillFrame ys (k + xs.length) (fillFrame xs k f) := by
  induction xs generalizing k f with
  | nil => rfl
  | cons x xs ih =>
    simp only [List.cons_append, fillFrame, ih, List.length_cons]
    rw [Nat.add_right_comm, Nat.add_assoc]

/-- A shift touches the byte it names and no other. -/
theorem shiftInto_getElem (f : Vector Byte 5) (j i : Nat) (bit : Bool) (hi : i < 5) :
    (shiftInto f j bit)[i] =
      if j = i then (f[i] <<< 1) ||| BitVec.setWidth 8 (BitVec.ofBool bit) else f[i] := by
  by_cases h : j = i
  · subst h
    simp [shiftInto, hi]
  · simp [shiftInto, h]

/-- Bits that all fall in byte j leave the other bytes as they are, and shift into it one after the other. -/
theorem fillFrame_within (bits : List Bool) (k j i : Nat) (f : Vector Byte 5) (hi : i < 5) (hlo : 8 * j ≤ k)
    (hhi : k + bits.length ≤ 8 * j + 8) :
    (fillFrame bits k f)[i] =
      if j = i then bits.foldl (fun (v : Byte) b => (v <<< 1) ||| BitVec.setWidth 8 (BitVec.ofBool b)) f[i] else f[i] := by
  induction bits generalizing k f with
  | nil => simp [fillFrame]
  | cons b bs ih =>
    rw [List.length_cons] at hhi
    have hkj : k / 8 = j := by omega
    rw [fillFrame, ih (k + 1) _ (by omega) (by omega), shiftInto_getElem _ _ _ _ hi, hkj]
    by_cases h : j = i <;> simp [h]

/-- The peak is at least every data sample. -/
theorem le_foldl_max (xs : List Nat) (m : Nat) : m ≤ xs.foldl max m ∧ ∀ x ∈ xs, x ≤ xs.foldl max m := by
  induction xs generalizing m with
  | nil => simp
  | cons y ys ih =>
    obtain ⟨h1, h2⟩ := ih (max m y)
    refine ⟨le_trans (le_max_left _ _) h1, ?_⟩
    intro x hx
    rcases List.mem_cons.mp hx with rfl | hx
    · exact le_trans (le_max_right _ _) h1
    · exact h2 x hx

/-- The largest of a row and a start value is one of them. -/
theorem foldl_max_mem (xs : List Nat) (m : Nat) : xs.foldl max m = m ∨ xs.foldl max m ∈ xs := by
  induction xs generalizing m with
  | nil => simp
  | cons y ys ih =>
    rcases ih (max m y) with h | h
    · rw [List.foldl_cons, h]
      rcases max_choice m y with h' | h' <;> rw [h'] <;> simp
    · exact .inr (List.mem_cons_of_mem _ h)

/-- Result selection, case by case (R168). -/
theorem selectResult_eq (lengthOk checksumOk : Bool) :
    selectResult lengthOk checksumOk = match lengthOk, checksumOk with
      | false, _ => .malformed
      | true, false => .checksum
      | true, true => .ok := by
  cases lengthOk <;> cases checksumOk <;> rfl

/-- A decode never yields NONE, so a commit always leaves a result (R168, R169). -/
theorem decodeSamples_result_ne_none (samples : List Nat) : (decodeSamples samples).result ≠ .none := by
  simp only [decodeSamples, selectResult_eq]
  split <;> simp

end Sys2Proof.Machine
end

