-- ==== Sys2Proof/Laws/PerInstr.lean ====
section
/-! SUPPORT. Statements made per instruction: `AlignmentOfRow` says of a transaction's word what R52 and R75 say of its row. -/

namespace Sys2Proof.Laws.AlignmentOfRow

/-- The word of a well-formed transaction has A[1:0] ≠ 0b00 exactly when its row is a misaligned one. -/
def Statement (i : Instr) : Prop :=
  i.wf = true → ((encode i).a.extractLsb' 0 2 ≠ 0 ↔ i.mnemonic = "MISALIGNED_A0" ∨ i.mnemonic = "MISALIGNED_A1")

/-- A row whose offset is one of R55's is aligned, and its mnemonic is neither of the two. -/
theorem of_offset (i : Instr) (w : Bool) (a : Offset) (d : Word) (he : encode i = BusWord.ofPorts w a d)
    (ha : a.extractLsb' 0 2 = 0) (hm : ¬(i.mnemonic = "MISALIGNED_A0" ∨ i.mnemonic = "MISALIGNED_A1")) : Statement i := by
  intro _
  rw [he, BusWord.ofPorts_a]
  exact iff_of_false (fun h => h ha) hm

/-- A reserved slot is aligned (R41). -/
theorem aligned_of_reserved : ∀ a : BitVec 5, Offset.isReservedSlot a = true → a.extractLsb' 0 2 = 0 := by decide

/-- A[0] = 1 is not aligned. -/
theorem not_aligned_low_bit : ∀ a : BitVec 5, (a.extractLsb' 0 1 == 0b1#1) = true → a.extractLsb' 0 2 ≠ 0 := by decide

/-- A[1:0] = 0b10 is not aligned. -/
theorem not_aligned_low_bits : ∀ a : BitVec 5, (a.extractLsb' 0 2 == 0b10#2) = true → a.extractLsb' 0 2 ≠ 0 := by decide

theorem rdCtrl (d : Word) : Statement (.rdCtrl d) := of_offset _ _ _ _ rfl (by decide) (by simp [Instr.mnemonic])
theorem rdStatus (d : Word) : Statement (.rdStatus d) := of_offset _ _ _ _ rfl (by decide) (by simp [Instr.mnemonic])
theorem rdFrame0 (d : Word) : Statement (.rdFrame0 d) := of_offset _ _ _ _ rfl (by decide) (by simp [Instr.mnemonic])
theorem rdFrame1 (d : Word) : Statement (.rdFrame1 d) := of_offset _ _ _ _ rfl (by decide) (by simp [Instr.mnemonic])
theorem rdDebug (d : Word) : Statement (.rdDebug d) := of_offset _ _ _ _ rfl (by decide) (by simp [Instr.mnemonic])
theorem rdParam (d : Word) : Statement (.rdParam d) := of_offset _ _ _ _ rfl (by decide) (by simp [Instr.mnemonic])
theorem rdRsvd (a : Offset) (d : Word) : Statement (.rdRsvd a d) := fun h =>
  of_offset _ _ _ _ rfl (aligned_of_reserved a h) (by simp [Instr.mnemonic]) h
theorem wrCtrlCfg (hi : BitVec 29) (v : BitVec 2) : Statement (.wrCtrlCfg hi v) :=
  of_offset _ _ _ _ rfl (by decide) (by simp [Instr.mnemonic])
theorem wrCtrlStartA (hi : BitVec 29) : Statement (.wrCtrlStartA hi) :=
  of_offset _ _ _ _ rfl (by decide) (by simp [Instr.mnemonic])
theorem wrCtrlStartB (hi : BitVec 29) : Statement (.wrCtrlStartB hi) :=
  of_offset _ _ _ _ rfl (by decide) (by simp [Instr.mnemonic])
theorem wrCtrlStartRsv (hi : BitVec 29) (v : BitVec 2) : Statement (.wrCtrlStartRsv hi v) :=
  of_offset _ _ _ _ rfl (by decide) (by simp [Instr.mnemonic])
theorem wrStatus (d : Word) : Statement (.wrStatus d) := of_offset _ _ _ _ rfl (by decide) (by simp [Instr.mnemonic])
theorem wrFrame0 (d : Word) : Statement (.wrFrame0 d) := of_offset _ _ _ _ rfl (by decide) (by simp [Instr.mnemonic])
theorem wrFrame1 (d : Word) : Statement (.wrFrame1 d) := of_offset _ _ _ _ rfl (by decide) (by simp [Instr.mnemonic])
theorem wrDebug (d : Word) : Statement (.wrDebug d) := of_offset _ _ _ _ rfl (by decide) (by simp [Instr.mnemonic])
theorem wrParam (d : Word) : Statement (.wrParam d) := of_offset _ _ _ _ rfl (by decide) (by simp [Instr.mnemonic])
theorem wrRsvd (a : Offset) (d : Word) : Statement (.wrRsvd a d) := fun h =>
  of_offset _ _ _ _ rfl (aligned_of_reserved a h) (by simp [Instr.mnemonic]) h
theorem misalignedA0 (w : Bool) (a : Offset) (d : Word) : Statement (.misalignedA0 w a d) := fun h => by
  rw [encode, BusWord.ofPorts_a]
  exact iff_of_true (not_aligned_low_bit a h) (.inl rfl)
theorem misalignedA1 (w : Bool) (a : Offset) (d : Word) : Statement (.misalignedA1 w a d) := fun h => by
  rw [encode, BusWord.ofPorts_a]
  exact iff_of_true (not_aligned_low_bits a h) (.inr rfl)

end Sys2Proof.Laws.AlignmentOfRow
end

