-- ==== Sys2Proof/Laws/Tick.lean ====
section
/-! SUPPORT. What one tick rule can do, said once (`tickRule_cases`), its frame, and that it does not meet what the bus
writes: the elements a transaction changes while a capture runs pass through it (R115). -/

namespace Sys2Proof.Machine

/-- Every way a tick rule ends, with the condition under which it does (R130 to R138). -/
inductive TickEnds (s : State) : Bool → State → Prop where
  | idle {l : Bool} (hf : s.fsm = .idle) : TickEnds s l s
  | wakeDone {l : Bool} (hf : s.fsm = .wakeHigh) (hc : s.cnt + 1 = s.params.tWakeHigh) : TickEnds s l (s.goto .startLow 0)
  | wakeCount {l : Bool} (hf : s.fsm = .wakeHigh) (hc : s.cnt + 1 ≠ s.params.tWakeHigh) : TickEnds s l s.count
  | startDone {l : Bool} (hf : s.fsm = .startLow) (hc : s.cnt + 1 = s.params.tStart s.variant) :
      TickEnds s l (s.goto .release 0)
  | startCount {l : Bool} (hf : s.fsm = .startLow) (hc : s.cnt + 1 ≠ s.params.tStart s.variant) : TickEnds s l s.count
  | releaseDone {l : Bool} (hf : s.fsm = .release) (hc : s.cnt + 1 = s.params.tRelease) : TickEnds s l (s.goto .ackLow 0)
  | releaseCount {l : Bool} (hf : s.fsm = .release) (hc : s.cnt + 1 ≠ s.params.tRelease) : TickEnds s l s.count
  | ackFall (hf : s.fsm = .ackLow) : TickEnds s false (s.goto .ackHigh 1)
  | ackLowTimeout (hf : s.fsm = .ackLow) (hc : s.cnt + 1 = s.params.ackBound) : TickEnds s true (s.finish .timeoutAckLow)
  | ackLowCount (hf : s.fsm = .ackLow) (hc : s.cnt + 1 ≠ s.params.ackBound) : TickEnds s true s.count
  | ackRise (hf : s.fsm = .ackHigh) : TickEnds s true (s.goto .capHigh 1)
  | ackHighTimeout (hf : s.fsm = .ackHigh) (hc : s.cnt + 1 = s.params.ackBound) :
      TickEnds s false (s.finish .timeoutAckHigh)
  | ackHighCount (hf : s.fsm = .ackHigh) (hc : s.cnt + 1 ≠ s.params.ackBound) : TickEnds s false s.count
  | capRise (hf : s.fsm = .capLow) : TickEnds s true (s.goto .capHigh 1)
  | capLowEnd (hf : s.fsm = .capLow) (hc : s.cnt + 1 = s.params.waitBound) : TickEnds s false (s.goto .decode 0)
  | capLowCount (hf : s.fsm = .capLow) (hc : s.cnt + 1 ≠ s.params.waitBound) : TickEnds s false s.count
  | recordLast (hf : s.fsm = .capHigh) (hn : s.n.toNat + 1 = 100) : TickEnds s false (s.record.goto .decode 0)
  | recordMore (hf : s.fsm = .capHigh) (hn : s.n.toNat + 1 ≠ 100) : TickEnds s false (s.record.goto .capLow 1)
  | capHighEnd (hf : s.fsm = .capHigh) (hc : s.cnt + 1 = s.params.waitBound) : TickEnds s true (s.goto .decode 0)
  | capHighCount (hf : s.fsm = .capHigh) (hc : s.cnt + 1 ≠ s.params.waitBound) : TickEnds s true s.count
  | decodeDone {l : Bool} (hf : s.fsm = .decode) (hc : s.cnt + 1 = s.params.decodeLatency) :
      TickEnds s l (s.commit (decodeSamples s.samples))
  | decodeCount {l : Bool} (hf : s.fsm = .decode) (hc : s.cnt + 1 ≠ s.params.decodeLatency) : TickEnds s l s.count

/-- The inversion lemma of the sequencer: a tick ends in one of these ways and in no other. -/
theorem tickRule_ends (l : Bool) (s : State) : TickEnds s l (tickRule l s) := by
  cases hf : s.fsm with
  | idle => simpa only [tickRule, hf] using .idle hf
  | wakeHigh =>
    simp only [tickRule, hf, tickWakeHigh]
    split_ifs with hc
    exacts [.wakeDone hf hc, .wakeCount hf hc]
  | startLow =>
    simp only [tickRule, hf, tickStartLow]
    split_ifs with hc
    exacts [.startDone hf hc, .startCount hf hc]
  | release =>
    simp only [tickRule, hf, tickRelease]
    split_ifs with hc
    exacts [.releaseDone hf hc, .releaseCount hf hc]
  | ackLow =>
    simp only [tickRule, hf, tickAckLow]
    cases l <;> simp only [if_true, if_false, Bool.true_eq_false]
    · exact .ackFall hf
    · split_ifs with hc
      exacts [.ackLowTimeout hf hc, .ackLowCount hf hc]
  | ackHigh =>
    simp only [tickRule, hf, tickAckHigh]
    cases l <;> simp only [if_true, if_false, Bool.false_eq_true]
    · split_ifs with hc
      exacts [.ackHighTimeout hf hc, .ackHighCount hf hc]
    · exact .ackRise hf
  | capLow =>
    simp only [tickRule, hf, tickCapLow]
    cases l <;> simp only [if_true, if_false, Bool.false_eq_true]
    · split_ifs with hc
      exacts [.capLowEnd hf hc, .capLowCount hf hc]
    · exact .capRise hf
  | capHigh =>
    simp only [tickRule, hf, tickCapHigh]
    cases l <;> simp only [if_true, if_false, Bool.true_eq_false]
    · split_ifs with hn
      exacts [.recordLast hf hn, .recordMore hf hn]
    · split_ifs with hc
      exacts [.capHighEnd hf hc, .capHighCount hf hc]
  | decode =>
    simp only [tickRule, hf, tickDecode]
    split_ifs with hc
    exacts [.decodeDone hf hc, .decodeCount hf hc]

/-- What no tick rule writes (R21, R28, R35; the ports and the carriers are the step's). -/
theorem tickRule_frame (l : Bool) (s : State) :
    (tickRule l s).params = s.params ∧ (tickRule l s).variant = s.variant ∧
    (tickRule l s).startIgnored = s.startIgnored ∧ (tickRule l s).busRdata = s.busRdata ∧
    (tickRule l s).busErr = s.busErr ∧ (tickRule l s).pending = s.pending ∧ (tickRule l s).tick = s.tick := by
  have h := tickRule_ends l s
  generalize tickRule l s = t at h
  cases h <;> simp

@[simp] theorem tickRule_params (l : Bool) (s : State) : (tickRule l s).params = s.params := (tickRule_frame l s).1
@[simp] theorem tickRule_variant (l : Bool) (s : State) : (tickRule l s).variant = s.variant := (tickRule_frame l s).2.1
@[simp] theorem tickRule_startIgnored (l : Bool) (s : State) : (tickRule l s).startIgnored = s.startIgnored :=
  (tickRule_frame l s).2.2.1
@[simp] theorem tickRule_busRdata (l : Bool) (s : State) : (tickRule l s).busRdata = s.busRdata :=
  (tickRule_frame l s).2.2.2.1
@[simp] theorem tickRule_busErr (l : Bool) (s : State) : (tickRule l s).busErr = s.busErr := (tickRule_frame l s).2.2.2.2.1
@[simp] theorem tickRule_pending (l : Bool) (s : State) : (tickRule l s).pending = s.pending :=
  (tickRule_frame l s).2.2.2.2.2.1
@[simp] theorem tickRule_tick (l : Bool) (s : State) : (tickRule l s).tick = s.tick := (tickRule_frame l s).2.2.2.2.2.2

/-- A state with the parts replaced that a transaction or the step itself writes while a capture runs. -/
def State.around (s : State) (b : Bool) (v : Word) (e : Bool) (p : List TickInput) (k : Nat) : State :=
  { s with startIgnored := b, busRdata := v, busErr := e, pending := p, tick := k }

section

variable (s : State) (b : Bool) (v : Word) (e : Bool) (p : List TickInput) (k : Nat)

@[simp] theorem State.around_params : (s.around b v e p k).params = s.params := rfl
@[simp] theorem State.around_fsm : (s.around b v e p k).fsm = s.fsm := rfl
@[simp] theorem State.around_cnt : (s.around b v e p k).cnt = s.cnt := rfl
@[simp] theorem State.around_n : (s.around b v e p k).n = s.n := rfl
@[simp] theorem State.around_buf : (s.around b v e p k).buf = s.buf := rfl
@[simp] theorem State.around_variant : (s.around b v e p k).variant = s.variant := rfl
@[simp] theorem State.around_result : (s.around b v e p k).result = s.result := rfl
@[simp] theorem State.around_startIgnored : (s.around b v e p k).startIgnored = b := rfl
@[simp] theorem State.around_frame : (s.around b v e p k).frame = s.frame := rfl
@[simp] theorem State.around_peak : (s.around b v e p k).peak = s.peak := rfl
@[simp] theorem State.around_csum : (s.around b v e p k).csum = s.csum := rfl
@[simp] theorem State.around_busRdata : (s.around b v e p k).busRdata = v := rfl
@[simp] theorem State.around_busErr : (s.around b v e p k).busErr = e := rfl
@[simp] theorem State.around_pending : (s.around b v e p k).pending = p := rfl
@[simp] theorem State.around_tick : (s.around b v e p k).tick = k := rfl
@[simp] theorem State.around_busy : (s.around b v e p k).busy = s.busy := rfl
@[simp] theorem State.around_samples : (s.around b v e p k).samples = s.samples := rfl

end

/-- The tick rule neither reads nor writes them (R115: the two writes never touch the same element). -/
theorem tickRule_around (l : Bool) (s : State) (b : Bool) (v : Word) (e : Bool) (p : List TickInput) (k : Nat) :
    tickRule l (s.around b v e p k) = (tickRule l s).around b v e p k := by
  cases hf : s.fsm <;>
    simp only [tickRule, hf, tickWakeHigh, tickStartLow, tickRelease, tickAckLow, tickAckHigh, tickCapLow, tickCapHigh,
      tickDecode, State.around_fsm, State.around_cnt, State.around_params, State.around_variant, State.around_n,
      State.around_samples] <;>
    (try split_ifs) <;> (try simp only [*, if_true, if_false]) <;> rfl

end Sys2Proof.Machine
end

