-- ==== Sys2Proof/Laws/Step.lean ====
section
/-! SUPPORT. What one edge can do, said once: `step_reset`, `step_busy` and `step_idle` give the next state of every step, and
the `run` lemmas carry them over several ticks. -/

namespace Sys2Proof.Machine

/-- An edge with `rst` = 1 (R230). -/
theorem step_reset (s : State) (h : s.input.rst = true) : step s = .next s.consume.resetEdge := by
  simp [step, h]

/-- An edge with `rst` = 0 while a capture runs: the tick rule on the pre-edge state, and around it only what the bus and the
step itself write. The flag can only be set (R28, R115). -/
theorem step_busy (s : State) (hr : s.input.rst = false) (hb : s.busy = true) :
    ∃ b v e, step s =
      .next ((tickRule s.sample s).around (b || s.startIgnored) v e s.pending.tail (s.tick + 1)) := by
  cases hi : s.input.bus with
  | none =>
    refine ⟨false, 0, false, ?_⟩
    simp only [step, hr, hi, blockStep, hb, if_true, Bool.false_eq_true, if_false, ← tickRule_around]
    rfl
  | some t =>
    obtain ⟨b, v, e, hx⟩ := exec_busy (decode t) s.consume hb
    refine ⟨b, v, e, ?_⟩
    simp only [step, hr, hi, blockStep, hb, if_true, Bool.false_eq_true, if_false, hx, ← tickRule_around]
    cases b <;> rfl

/-- An edge with `rst` = 0 while the block is idle: the bus's effects alone (R130). -/
theorem step_idle (s : State) (hr : s.input.rst = false) (hb : s.busy = false) :
    ∃ v e, step s = .next (s.consume.respond v e) ∨
      (∃ k, step s = .next (({ s.consume with variant := k } : State).respond v e)) ∨
      (∃ k, (k = 0b00#2 ∨ k = 0b01#2) ∧ step s = .next ((s.consume.acceptStart k).respond v e)) ∨
      (∃ k, step s = .next ((s.consume.rejectStart k).respond v e)) := by
  cases hi : s.input.bus with
  | none => exact ⟨0, false, .inl (by simp [step, hr, hi, blockStep, hb])⟩
  | some t =>
    have hstep : ∀ u, exec (decode t) s.consume = .next u → step s = .next u := by
      intro u hu
      simp [step, hr, hi, blockStep, hb, hu]
    obtain ⟨v, e, hx | ⟨k, hx⟩ | ⟨k, hk, hx⟩ | ⟨k, hx⟩⟩ := exec_idle (decode t) s.consume hb
    · exact ⟨v, e, .inl (hstep _ hx)⟩
    · exact ⟨v, e, .inr (.inl ⟨k, hstep _ hx⟩)⟩
    · exact ⟨v, e, .inr (.inr (.inl ⟨k, hk, hstep _ hx⟩))⟩
    · exact ⟨v, e, .inr (.inr (.inr ⟨k, hstep _ hx⟩))⟩

/-- The next state of a step is determined. -/
theorem step_unique {s t u : State} (ht : step s = .next t) (hu : step s = .next u) : t = u := by
  rw [ht] at hu
  simpa using hu

/-- The start commands among the transactions of a tick. -/
def State.startPresented (s : State) : Bool :=
  match s.input.bus with
  | some w => isStart w
  | none => false

/-- What one edge does, by `rst`, by whether a capture runs, and by the fields of the transaction's word. -/
inductive EdgeEffect (s : State) : State → Prop where
  | reset (hr : s.input.rst = true) : EdgeEffect s s.consume.resetEdge
  | capture (v : Word) (e : Bool) (hr : s.input.rst = false) (hb : s.busy = true) :
      EdgeEffect s
        ((tickRule s.sample s).around (s.startPresented || s.startIgnored) v e s.pending.tail (s.tick + 1))
  | quiet (v : Word) (e : Bool) (hr : s.input.rst = false) (hb : s.busy = false)
      (hc : ∀ w, s.input.bus = some w → isCtrlWrite w = false) :
      EdgeEffect s (s.consume.respond v e)
  | config (v : Word) (e : Bool) (w : BusWord) (hr : s.input.rst = false) (hb : s.busy = false) (hw : s.input.bus = some w)
      (hc : isCtrlWrite w = true) (hs : isStart w = false) :
      EdgeEffect s (({ s.consume with variant := ctrlVariant w.d } : State).respond v e)
  | accept (v : Word) (e : Bool) (w : BusWord) (hr : s.input.rst = false) (hb : s.busy = false) (hw : s.input.bus = some w)
      (hc : isCtrlWrite w = true) (hs : isStart w = true) (hk : ctrlVariant w.d = 0b00#2 ∨ ctrlVariant w.d = 0b01#2) :
      EdgeEffect s ((s.consume.acceptStart (ctrlVariant w.d)).respond v e)
  | reject (v : Word) (e : Bool) (w : BusWord) (hr : s.input.rst = false) (hb : s.busy = false) (hw : s.input.bus = some w)
      (hc : isCtrlWrite w = true) (hs : isStart w = true) (hk : ctrlVariant w.d = 0b10#2 ∨ ctrlVariant w.d = 0b11#2) :
      EdgeEffect s ((s.consume.rejectStart (ctrlVariant w.d)).respond v e)

/-- The inversion lemma of the step: an edge has one of these effects and no other. -/
theorem step_effect {s t : State} (ht : step s = .next t) : EdgeEffect s t := by
  cases hr : s.input.rst with
  | true =>
    obtain rfl := step_unique ht (step_reset s hr)
    exact .reset hr
  | false =>
    cases hi : s.input.bus with
    | none =>
      have hx : step s = .next (blockStep s s.consume.noTransaction) := by simp [step, hr, hi]
      obtain rfl := step_unique ht hx
      cases hb : s.busy with
      | false => simpa [blockStep, hb] using EdgeEffect.quiet 0 false hr hb (by simp [hi])
      | true =>
        have h := EdgeEffect.capture (s := s) 0 false hr hb
        rw [← tickRule_around] at h
        have hu : s.consume.noTransaction = s.around s.startIgnored 0 false s.pending.tail (s.tick + 1) := rfl
        rw [blockStep, if_pos hb, hu]
        simpa [State.startPresented, hi] using h
    | some w =>
      obtain ⟨u, hu, he⟩ := exec_word w s.consume
      have hx : step s = .next (blockStep s u) := by simp [step, hr, hi, hu]
      obtain rfl := step_unique ht hx
      cases hb : s.busy with
      | true =>
        have hu' : u = s.around (isStart w || s.startIgnored) u.busRdata u.busErr s.pending.tail (s.tick + 1) := by
          cases he with
          | answer v e hc => simp [isStart, hc, State.around, State.respond, State.consume]
          | busyWrite v e hc hb' =>
            cases isStart w <;> rfl
          | config v e hc hb' => simp [hb] at hb'
          | accept v e hc hb' => simp [hb] at hb'
          | reject v e hc hb' => simp [hb] at hb'
        have h := EdgeEffect.capture (s := s) u.busRdata u.busErr hr hb
        rw [← tickRule_around] at h
        simp only [State.startPresented, hi] at h
        rw [← hu'] at h
        simpa [blockStep, hb] using h
      | false =>
        have hbs : blockStep s u = u := by simp [blockStep, hb]
        rw [hbs]
        cases he with
        | answer v e hc => exact .quiet v e hr hb (by simp [hi, hc])
        | busyWrite v e hc hb' => simp [hb] at hb'
        | config v e hc hb' hs => exact .config v e w hr hb hi hc hs
        | accept v e hc hb' hs hk => exact .accept v e w hr hb hi hc hs hk
        | reject v e hc hb' hs hk => exact .reject v e w hr hb hi hc hs hk

/-! ### Runs -/

@[simp] theorem State.run_zero (s : State) : s.run 0 = s := rfl

theorem State.run_succ (s t : State) (k : Nat) (h : step s = .next t) : s.run (k + 1) = t.run k := by
  simp [State.run, h]

theorem State.run_one (s t : State) (h : step s = .next t) : s.run 1 = t := by
  rw [State.run_succ s t 0 h, State.run_zero]

@[simp] theorem State.inputAt_zero (s : State) : s.inputAt 0 = s.input := by
  cases hp : s.pending <;> simp [State.inputAt, State.input, hp]

@[simp] theorem State.sampleAt_zero (s : State) : s.sampleAt 0 = s.sample := by
  simp [State.sampleAt, State.sample]

/-- The inputs to come depend on the step's own carriers alone. -/
theorem State.inputAt_succ (s t : State) (j : Nat) (hp : t.pending = s.pending.tail) : t.inputAt j = s.inputAt (j + 1) := by
  simp [State.inputAt, hp]

theorem State.sampleAt_succ (s t : State) (j : Nat) (hp : t.pending = s.pending.tail) (ht : t.tick = s.tick + 1) :
    t.sampleAt j = s.sampleAt (j + 1) := by
  simp [State.sampleAt, State.inputAt_succ s t j hp, ht, Nat.add_assoc, Nat.add_comm 1 j]

theorem State.NoReset.head {s : State} {k : Nat} (h : s.NoReset (k + 1)) : s.input.rst = false := by
  simpa using h 0 (by omega)

theorem State.NoReset.tail {s t : State} {k : Nat} (h : s.NoReset (k + 1)) (hp : t.pending = s.pending.tail) :
    t.NoReset k := by
  intro j hj
  rw [State.inputAt_succ s t j hp]
  exact h (j + 1) (by omega)

end Sys2Proof.Machine
end

