-- ==== Sys2Proof/Laws/Run.lean ====
section
/-! SUPPORT. A run tick by tick: `run_next` names the state after each tick, `run_input` and `run_sample` its inputs in terms of
the first state's, and `run_capture` one tick of a running capture. -/

namespace Sys2Proof.Machine

/-- Every edge has a next state. -/
theorem step_next (s : State) :
    ∃ t, step s = .next t ∧ t.params = s.params ∧ t.pending = s.pending.tail ∧ t.tick = s.tick + 1 := by
  cases hr : s.input.rst with
  | true => exact ⟨_, step_reset s hr, rfl, rfl, rfl⟩
  | false =>
    cases hb : s.busy with
    | true =>
      obtain ⟨b, v, e, h⟩ := step_busy s hr hb
      exact ⟨_, h, by simp, by simp, by simp⟩
    | false =>
      obtain ⟨v, e, hx | ⟨k, hx⟩ | ⟨k, -, hx⟩ | ⟨k, hx⟩⟩ := step_idle s hr hb <;> exact ⟨_, hx, rfl, rfl, rfl⟩

/-- The state after one more tick is the step of the state before. -/
theorem State.run_next (s : State) (j : Nat) : step (s.run j) = .next (s.run (j + 1)) := by
  induction j generalizing s with
  | zero =>
    obtain ⟨t, h, -⟩ := step_next s
    rw [s.run_one t h, State.run_zero, h]
  | succ j ih =>
    obtain ⟨t, h, -⟩ := step_next s
    rw [State.run_succ s t j h, State.run_succ s t (j + 1) h]
    exact ih t

/-- A run of `j + k` ticks is one of `k` ticks after one of `j`. -/
theorem State.run_add (s : State) (j k : Nat) : s.run (j + k) = (s.run j).run k := by
  induction j generalizing s with
  | zero => simp
  | succ j ih =>
    obtain ⟨t, h, -⟩ := step_next s
    rw [Nat.add_right_comm, State.run_succ s t _ h, State.run_succ s t j h]
    exact ih t

/-- What a run leaves of the step's own carriers: the parameters, the inputs to come and the tick number. -/
theorem State.run_carriers (s : State) (j : Nat) :
    (s.run j).params = s.params ∧ (s.run j).pending = s.pending.drop j ∧ (s.run j).tick = s.tick + j := by
  induction j with
  | zero => simp
  | succ j ih =>
    obtain ⟨t, h, hp, hq, ht⟩ := step_next (s.run j)
    obtain rfl := step_unique h (s.run_next j)
    refine ⟨hp.trans ih.1, ?_, ?_⟩
    · rw [hq, ih.2.1, List.tail_drop]
    · omega

@[simp] theorem State.run_params (s : State) (j : Nat) : (s.run j).params = s.params := (s.run_carriers j).1

/-- The inputs of the tick after `j` ticks are the inputs `j` ticks away. -/
theorem State.run_input (s : State) (j : Nat) : (s.run j).input = s.inputAt j := by
  rw [State.input, (s.run_carriers j).2.1, State.inputAt, List.headD_eq_head?_getD, List.head?_drop]

/-- The line sample of the tick after `j` ticks is the sample `j` ticks away. -/
theorem State.run_sample (s : State) (j : Nat) : (s.run j).sample = s.sampleAt j := by
  rw [State.sample, State.run_input, (s.run_carriers j).2.2, State.sampleAt]

/-- One tick of a running capture, in a run without a reset: the tick rule, and around it only what the bus and the step
itself write. -/
theorem State.run_capture (s : State) (j : Nat) (hr : (s.inputAt j).rst = false) (hb : (s.run j).fsm ≠ .idle) :
    ∃ b v e p k, s.run (j + 1) = (tickRule (s.sampleAt j) (s.run j)).around b v e p k := by
  rw [← State.run_input] at hr
  obtain ⟨b, v, e, h⟩ := step_busy (s.run j) hr ((State.busy_eq_true_iff _).2 hb)
  exact ⟨_, v, e, _, _, by rw [step_unique (s.run_next j) h, State.run_sample]⟩

/-- A run has no reset where none of the presented ticks has one. -/
theorem State.noReset_of_pending (s : State) (h : s.pending.all (fun i => i.rst == false) = true) (k : Nat) : s.NoReset k := by
  intro j _
  rw [State.inputAt]
  cases hj : s.pending[j]? with
  | none => rfl
  | some i => simpa using List.all_eq_true.1 h i (List.mem_of_getElem? hj)

end Sys2Proof.Machine
end

