-- ==== Sys2Proof/Machine/HostReference.lean ====
section
/-! DEFINITION. The host-side reading of a frame (45_host_reference.md R190 to R193). OUTSIDE THE BLOCK (R4 (d)): no step
calls it; it is given so that the source's worked examples can be stated. Values are integers, in tenths where the source
divides by 10 (log 13). -/

namespace Sys2Proof.Machine

/-- What the host reads from a frame: relative humidity and temperature, both in tenths. -/
structure Reading where
  humidityTenths : Int
  temperatureTenths : Int
  deriving DecidableEq, Repr

/-- VariantA (R190): whole percent and whole degrees; bytes 1 and 3 are not used. -/
def readingA (f : Vector Byte 5) : Reading where
  humidityTenths := 10 * f[0].toNat
  temperatureTenths := 10 * f[2].toNat

/-- VariantB (R191, R192): humidity in tenths, temperature in tenths as sign and magnitude. -/
def readingB (f : Vector Byte 5) : Reading where
  humidityTenths := f[0].toNat * 256 + f[1].toNat
  temperatureTenths :=
    let magnitude : Int := ((f[2] &&& 0x7F#8).toNat * 256 + f[3].toNat : Nat)
    if f[2].getLsbD 7 then -magnitude else magnitude

/-- The reading by variant code; a reserved code has none (R193). -/
def readingOf (variant : BitVec 2) (f : Vector Byte 5) : Option Reading :=
  if variant = 0b00#2 then some (readingA f) else if variant = 0b01#2 then some (readingB f) else none

end Sys2Proof.Machine
end

