-- ==== Sys2Proof/Tests/Slice0.lean ====
section
/-! SUPPORT. The model's own tests: the WellFormed smoke test, the decoding of every constructor, one step of every rule, and a
witness for the hypotheses of every obligation. Expected values are those of 95_test_vectors.md and of the rules' examples. -/

namespace Sys2Proof.Tests

open Sys2Proof.Machine

/-! ### WellFormed: an ill-formed term for each check, refused (R41, R74, R113) -/

theorem test_wf_refuses_rdRsvd_elsewhere : (Instr.rdRsvd 0x14 0).wf = false := by decide
theorem test_wf_refuses_wrRsvd_elsewhere : (Instr.wrRsvd 0x1D 0).wf = false := by decide
theorem test_wf_refuses_startRsv_A : (Instr.wrCtrlStartRsv 0 0b00).wf = false := by decide
theorem test_wf_refuses_startRsv_B : (Instr.wrCtrlStartRsv 0 0b01).wf = false := by decide
theorem test_wf_refuses_misalignedA0_even : (Instr.misalignedA0 true 0x02 0).wf = false := by decide
theorem test_wf_refuses_misalignedA1_aligned : (Instr.misalignedA1 false 0x04 0).wf = false := by decide
theorem test_wf_refuses_misalignedA1_odd : (Instr.misalignedA1 false 0x03 0).wf = false := by decide
theorem test_wf_accepts_the_rest :
    (Instr.rdRsvd 0x18 5).wf = true ∧ (Instr.wrRsvd 0x1C 5).wf = true ∧ (Instr.wrCtrlStartRsv 0 0b11).wf = true ∧
    (Instr.misalignedA0 false 0x1F 0).wf = true ∧ (Instr.misalignedA1 true 0x1E 0).wf = true := by decide

/-! ### Decode: one word of every row, written out from R70 and R76 as W, A[4:0], D[31:0] -/

theorem test_decode_RD_CTRL : decode 0b0_00000_00000000000000000000000000000000#38 = .rdCtrl 0 := by decide
theorem test_decode_RD_STATUS : decode 0b0_00100_00000000000000000000000000000000#38 = .rdStatus 0 := by decide
theorem test_decode_RD_FRAME0 : decode 0b0_01000_00000000000000000000000000000000#38 = .rdFrame0 0 := by decide
theorem test_decode_RD_FRAME1 : decode 0b0_01100_00000000000000000000000000000000#38 = .rdFrame1 0 := by decide
theorem test_decode_RD_DEBUG : decode 0b0_10000_00000000000000000000000000000001#38 = .rdDebug 1 := by decide
theorem test_decode_RD_PARAM : decode 0b0_10100_10000000000000000000000000000000#38 = .rdParam 0x80000000 := by decide
theorem test_decode_RD_RSVD : decode 0b0_11000_00000000000000000000000000000000#38 = .rdRsvd 0x18 0 := by decide
theorem test_decode_WR_CTRL_CFG : decode 0b1_00000_00000000000000000000000000000110#38 = .wrCtrlCfg 0 0b11 := by decide
theorem test_decode_WR_CTRL_START_A : decode 0b1_00000_00000000000000000000000000001001#38 = .wrCtrlStartA 1 := by decide
theorem test_decode_WR_CTRL_START_B : decode 0b1_00000_00000000000000000000000000000011#38 = .wrCtrlStartB 0 := by decide
theorem test_decode_WR_CTRL_START_RSV :
    decode 0b1_00000_00000000000000000000000000000101#38 = .wrCtrlStartRsv 0 0b10 := by decide
theorem test_decode_WR_STATUS : decode 0b1_00100_11111111111111111111111111111111#38 = .wrStatus 0xFFFFFFFF := by decide
theorem test_decode_WR_FRAME0 : decode 0b1_01000_00000000000000000000000000000001#38 = .wrFrame0 1 := by decide
theorem test_decode_WR_FRAME1 : decode 0b1_01100_00000000000000000000000000000000#38 = .wrFrame1 0 := by decide
theorem test_decode_WR_DEBUG : decode 0b1_10000_00000000000000000000000000000000#38 = .wrDebug 0 := by decide
theorem test_decode_WR_PARAM : decode 0b1_10100_00000000000000000000000000000000#38 = .wrParam 0 := by decide
theorem test_decode_WR_RSVD : decode 0b1_11100_00010010001101000101011001111000#38 = .wrRsvd 0x1C 0x12345678 := by decide
theorem test_decode_MISALIGNED_A0 : decode 0b1_00001_00000000000000000000000000000011#38 = .misalignedA0 true 0x01 3 := by
  decide
theorem test_decode_MISALIGNED_A0_both_bits : decode 0b0_11111_00000000000000000000000000000000#38 =
    .misalignedA0 false 0x1F 0 := by decide
theorem test_decode_MISALIGNED_A1 : decode 0b0_00110_00000000000000000000000000000000#38 = .misalignedA1 false 0x06 0 := by
  decide

/-- A number of more than 38 bits is rejected by name. -/
theorem test_decode_rejects_beyond_38_bits :
    (match decodeNat (2 ^ 38) with | .error r => r == .beyond38Bits | .ok _ => false) = true ∧
    decodeTableWord 40 (2 ^ 38) = none ∧ decodeTableWord 40 0x3FFFFFFFFF = some (.misalignedA0 true 0x1F 0xFFFFFFFF) := by
  decide

/-- The words of R81's examples, and R82's expansions. -/
theorem test_script_words :
    (ScriptLine.rd 0x04).bus = some 0x0400000000 ∧ (ScriptLine.wr 0x00 3).bus = some 0x2000000003 ∧
    (ScriptLine.rd 0x06).bus = some 0x0600000000 ∧ ScriptLine.nop.bus = none ∧
    scriptStartA.map ScriptLine.bus = [some 0x2000000001] ∧ scriptStartB.map ScriptLine.bus = [some 0x2000000003] ∧
    (scriptSetVar 0b01).map ScriptLine.bus = [some 0x2000000002] ∧ scriptWait 2 = [.nop, .nop] := by decide

/-! ### States to step from -/

/-- The parameter set EX of 95_test_vectors.md; SYNC_STAGES 1, as it allows. -/
def exParams : Params where
  fTick := 1000
  tWakeHigh := 4
  tStartA := 3
  tStartB := 2
  tRelease := 1
  ackBound := 6
  waitBound := 10
  countWidth := 4
  decodeLatency := 1
  syncStages := 1
  baseAddr := 32

/-- A state of an EX instance in sequencer state `f` with `cnt` = `c`, everything else as after reset. -/
def exAt (f : Fsm) (c : Nat) (p : List TickInput) : State where
  params := exParams
  fsm := f
  cnt := c
  n := 0
  buf := Vector.replicate 100 0
  variant := 0b00#2
  result := .none
  startIgnored := false
  frame := Vector.replicate 5 0
  peak := 0
  csum := 0
  busRdata := 0
  busErr := false
  pending := p
  tick := 0

/-- The reset state of an EX instance. -/
def exIdle : State := exAt .idle 0 []

/-- The state after the commit of frame [2, 88, 1, 44, 135] (S5). -/
def exDone : State :=
  { exIdle with
    n := 41, buf := Vector.replicate 100 5, variant := 0b01, result := .ok, frame := #v[2, 88, 1, 44, 135], peak := 5
    csum := 135 }

/-- A tick with the line sample `l` and the transaction `b`. -/
def tickOf (l : Bool) (b : Option BusWord) : TickInput := { rst := false, line := some l, bus := b }

/-- Ticks without transactions, with these line samples. -/
def line (ls : List Bool) : List TickInput := ls.map (fun l => tickOf l none)

/-- The state after a transaction. -/
def post (i : Instr) (s : State) : Option State :=
  match exec i s with
  | .next t => some t
  | .fault _ => none
  | .refused _ => none

/-- The response of a transaction. -/
def response (i : Instr) (s : State) : Option (Word × Bool) := (post i s).map (fun t => (t.busRdata, t.busErr))

/-! ### Reads (V-BUS-1, V-BUS-2, V-BUS-12, P1) -/

theorem test_rdCtrl : response (.rdCtrl 0xFFFFFFFF) { exIdle with variant := 0b11 } = some (0x00000006, false) := by decide
theorem test_rdStatus_after_commit : response (.rdStatus 0) exDone = some (0x00002904, false) := by decide
theorem test_rdStatus_busy :
    response (.rdStatus 0) { exAt .wakeHigh 0 [] with startIgnored := true } = some (0x00010003, false) := by decide
theorem test_rdFrame0 : response (.rdFrame0 0) exDone = some (0x0258012C, false) := by decide
theorem test_rdFrame1 : response (.rdFrame1 0) exDone = some (0x00000087, false) := by decide
theorem test_rdDebug : response (.rdDebug 0) exDone = some (0x00870005, false) := by decide
theorem test_rdParam : response (.rdParam 0) exIdle = some (0x00042964, false) := by decide
theorem test_rdRsvd : response (.rdRsvd 0x18 0) exDone = some (0, false) := by decide

/-! ### Writes (V-BUS-3 to V-BUS-15) -/

theorem test_wrCtrlCfg_idle :
    (post (.wrCtrlCfg 0 0b01) exIdle).map (fun t => (t.variant, t.fsm, t.busErr)) = some (0b01, .idle, false) := by decide
theorem test_wrCtrlCfg_busy :
    (post (.wrCtrlCfg 0 0b01) (exAt .wakeHigh 0 [])).map (fun t => (t.variant, t.startIgnored)) = some (0b00, false) := by
  decide
theorem test_wrCtrlStartA_idle :
    post (.wrCtrlStartA 0) exDone = some { exAt .wakeHigh 0 [] with buf := exDone.buf } := by decide
theorem test_wrCtrlStartA_keeps_buf : (post (.wrCtrlStartA 0) exDone).map (fun t => t.buf[40]) = some 5 := by decide
theorem test_wrCtrlStartB_idle :
    (post (.wrCtrlStartB 0) { exIdle with startIgnored := true }).map (fun t => (t.fsm, t.variant, t.startIgnored)) =
      some (.wakeHigh, 0b01, false) := by decide
theorem test_wrCtrlStartB_busy :
    (post (.wrCtrlStartB 0) (exAt .wakeHigh 2 [])).map (fun t => (t.fsm, t.cnt, t.variant, t.startIgnored)) =
      some (.wakeHigh, 2, 0b00, true) := by decide
theorem test_wrCtrlStartRsv_idle :
    (post (.wrCtrlStartRsv 0 0b10) exDone).map (fun t => (t.fsm, t.variant, t.result, t.n, t.frame.toList)) =
      some (.idle, 0b10, .unsupported, 0, [0, 0, 0, 0, 0]) := by decide
theorem test_wrCtrlStartRsv_busy :
    (post (.wrCtrlStartRsv 0 0b11) (exAt .capLow 1 [])).map (fun t => (t.fsm, t.variant, t.result, t.startIgnored)) =
      some (.capLow, 0b00, .none, true) := by decide
theorem test_other_writes_change_nothing :
    ([Instr.wrStatus 0xFFFFFFFF, .wrFrame0 1, .wrFrame1 1, .wrDebug 1, .wrParam 0, .wrRsvd 0x1C 0x12345678].map
      (fun i => post i exIdle)) = List.replicate 6 (some exIdle) := by decide
theorem test_misaligned_read : response (.misalignedA1 false 0x06 0) exDone = some (0, true) := by decide
theorem test_misaligned_write_is_no_start :
    (post (.misalignedA0 true 0x01 3) exIdle).map (fun t => (t.fsm, t.variant, t.busErr)) = some (.idle, 0b00, true) := by
  decide

/-! ### One tick of each sequencer state (R131 to R138) -/

theorem test_wakeHigh_ends : ((exAt .wakeHigh 3 (line [true])).run 1).fsm = .startLow := by decide
theorem test_wakeHigh_counts : ((exAt .wakeHigh 2 (line [false])).run 1).cnt = 3 := by decide
theorem test_startLow_ends_by_variant :
    ((exAt .startLow 1 (line [true])).run 1).fsm = .startLow ∧
    (({ exAt .startLow 1 (line [true]) with variant := 0b01 } : State).run 1).fsm = .release := by decide
theorem test_release_ends : ((exAt .release 0 (line [false])).run 1).fsm = .ackLow := by decide
theorem test_ackLow_falls_before_the_bound :
    (((exAt .ackLow 5 (line [false])).run 1).fsm, ((exAt .ackLow 5 (line [false])).run 1).cnt) = (.ackHigh, 1) := by decide
theorem test_ackLow_times_out : ((exAt .ackLow 5 (line [true])).run 1).result = .timeoutAckLow := by decide
theorem test_ackHigh_rises_before_the_bound : ((exAt .ackHigh 5 (line [true])).run 1).fsm = .capHigh := by decide
theorem test_ackHigh_times_out : ((exAt .ackHigh 5 (line [false])).run 1).result = .timeoutAckHigh := by decide
theorem test_capLow_rises : ((exAt .capLow 9 (line [true])).run 1).fsm = .capHigh := by decide
theorem test_capLow_ends_the_frame : ((exAt .capLow 9 (line [false])).run 1).fsm = .decode := by decide
theorem test_capHigh_records :
    (((exAt .capHigh 5 (line [false])).run 1).buf[0], ((exAt .capHigh 5 (line [false])).run 1).n) = (5, 1) := by decide
theorem test_capHigh_ends_unrecorded :
    (((exAt .capHigh 9 (line [true])).run 1).fsm, ((exAt .capHigh 9 (line [true])).run 1).n) = (.decode, 0) := by decide
theorem test_hundredth_sample_ends_the_capture :
    (({ exAt .capHigh 2 (line [false]) with n := 99 } : State).run 1).fsm = .decode := by decide
theorem test_decode_commits_malformed :
    (((exAt .decode 0 (line [true])).run 1).fsm, ((exAt .decode 0 (line [true])).run 1).result) = (.idle, .malformed) := by
  decide
theorem test_transaction_and_tick_together :
    (((exAt .wakeHigh 0 [tickOf true (some 0x2000000003)]).run 1).cnt,
      ((exAt .wakeHigh 0 [tickOf true (some 0x2000000003)]).run 1).startIgnored) = (1, true) := by decide
theorem test_read_is_of_the_pre_edge_state :
    ((exAt .ackLow 5 [tickOf true (some 0x0400000000)]).run 1).busRdata = 0x00040001 := by decide

/-! ### Reset and the first step (V-RST-2, V-RST-3) -/

theorem test_reset_drops_a_start :
    (({ exDone with pending := [{ rst := true, line := none, bus := some 0x2000000003 }] } : State).run 1).fsm = .idle := by
  decide
theorem test_reset_drops_a_bus_error :
    (({ exDone with pending := [{ rst := true, line := none, bus := some 0x0600000000 }] } : State).run 1).busErr = false := by
  decide

/-- The very next step after `withFetchWord` runs the word, from the reset state. -/
theorem test_step_runs_the_presented_word :
    (match step (State.reset.withFetchWord 40 0x2000000003) with
      | .next t => t.fsm == .wakeHigh && t.variant == 0b01
      | .fault _ => false
      | .refused _ => false) = true := by decide

/-! ### The decoder (V-DEC-11, V-DEC-13, V-DEC-18, V-DEC-19, R162's points, R166's points) -/

theorem test_decode_two_samples : decodeSamples [7, 3] = ⟨.malformed, #v[1, 0, 0, 0, 0], 3, 1⟩ := by decide
theorem test_decode_short_frame : decodeSamples [7, 5, 1, 5] = ⟨.malformed, #v[5, 0, 0, 0, 0], 5, 5⟩ := by decide
theorem test_decode_no_samples : decodeSamples [] = ⟨.malformed, Vector.replicate 5 0, 0, 0⟩ := by decide
theorem test_threshold_points :
    [(10, 5), (10, 6), (5, 2), (5, 3), (1, 1), (15, 7), (15, 8)].map (fun p => bitOf p.1 p.2) =
      [false, true, false, true, true, false, true] := by decide
theorem test_checksum_points :
    [#v[255, 255, 255, 255, 0], #v[128, 128, 0, 0, 0], #v[1, 2, 3, 4, 0], #v[200, 100, 50, 10, 0]].map checksumOf =
      [252, 0, 10, 104] := by decide

set_option maxRecDepth 4000 in
/-- DOC §8's 22-class frame, sample by sample (V-DEC-2). -/
theorem test_decode_whole_frame :
    decodeSamples ([5, 2, 2, 2, 2, 2, 2, 5, 2, 2, 5, 2, 5, 5, 2, 2, 2] ++
      [2, 2, 2, 2, 2, 2, 2, 5, 2, 2, 5, 2, 5, 5, 2, 2, 5, 2, 2, 2, 2, 5, 5, 5]) =
      ⟨.ok, #v[2, 88, 1, 44, 135], 5, 135⟩ := by decide

/-! ### Outside the block (S4 to S6, R45, R50, R78) -/

theorem test_readings :
    readingOf 0b00 #v[55, 0, 26, 0, 81] = some ⟨550, 260⟩ ∧ readingOf 0b01 #v[2, 88, 1, 44, 135] = some ⟨600, 300⟩ ∧
    readingOf 0b01 #v[2, 88, 0x81, 44, 7] = some ⟨600, -300⟩ ∧ readingOf 0b10 #v[2, 88, 1, 44, 135] = none := by decide
theorem test_synchronizer_two_stages :
    synchronize [true, true] [false, false, true] = [true, true, false] ∧ synchronize [] [false, true] = [false, true] := by
  decide
theorem test_window :
    memRead exParams 36 = some 0x0400000000 ∧ memWrite exParams 32 3 = some 0x2000000003 ∧ memRead exParams 64 = none := by
  decide
theorem test_public_codes :
    [Result.ok, .unsupported, .timeoutAckHigh].map Result.publicCode = [some 0, some (-2), some (-3)] := by decide

/-! ### Witnesses: for every obligation with hypotheses, concrete values that meet all of them together -/

/-- An early state of a capture meets the invariant once `cnt` is in range. -/
theorem exAt_inv (f : Fsm) (c : Nat) (p : List TickInput) (hc : (exAt f c p).CntInRange) : (exAt f c p).Inv where
  params := by show exParams.Wf; decide
  nBound := by show (0#7).toNat ≤ 100; decide
  samples := fun i h => absurd h (Nat.not_lt_zero i.val)
  cnt := hc
  result := fun _ => rfl
  capturing := fun _ => by show (0#7).toNat < 100; decide
  variant := fun _ => .inl rfl
  fresh := fun _ => rfl
  cleared := fun _ => ⟨rfl, rfl, rfl⟩
  csum := by show (0 : Byte) = checksumOf (Vector.replicate 5 0); decide
  resultMeans := trivial

/-- A committed state meets it too. -/
theorem exDone_inv : exDone.Inv where
  params := by decide
  nBound := by decide
  samples := by decide
  cnt := by show (0 : Nat) = 0; rfl
  result := by decide
  capturing := by decide
  variant := by decide
  fresh := by decide
  cleared := by decide
  csum := by decide
  resultMeans := by show (41#7).toNat = 41 ∧ _; decide

theorem witness_DefaultParametersMeetTheirConstraints :
    (834 ≤ 834 ∧ 2 ≤ 2 ∧ 2 ≤ 65536 ∧ 0 % 32 = 0) ∧ 834 ≤ 1000000 ∧ 2 ≤ 65536 ∧ 65536 ≤ 65536 ∧ 64 % 32 = 0 := by decide

theorem witness_DecodeOfEncodeIsTheTransaction :
    (Instr.wrCtrlStartRsv 0x1FFFFFFF 0b10).wf = true ∧ (Instr.misalignedA1 true 0x1E 7).wf = true ∧
    (Instr.rdRsvd 0x1C 9).wf = true := by decide

theorem witness_ReadsIgnoreWriteData :
    ∃ t t' : BusWord, t.w = false ∧ t'.w = false ∧ t.a = t'.a ∧ t ≠ t' := ⟨0x0400000000, 0x04FFFFFFFF, by decide⟩

theorem witness_WindowAccessIsItsTransaction :
    32 = exParams.baseAddr + (0x00 : Offset).toNat ∧ 63 = exParams.baseAddr + (0x1F : Offset).toNat ∧
    31 < exParams.baseAddr ∧ exParams.baseAddr + 32 ≤ 64 := by decide

theorem witness_OnlyCtrlWritesChangeState :
    (BusWord.w 0x00FFFFFFFF = false ∨ BusWord.a 0x00FFFFFFFF ≠ 0x00) ∧
    (BusWord.w 0x2400000000 = false ∨ BusWord.a 0x2400000000 ≠ 0x00) := by decide

theorem witness_ConfigWriteStoresVariantWhenIdle : exIdle.fsm = .idle ∧ (exAt .decode 0 []).fsm ≠ .idle := by decide

theorem witness_SupportedStartIsAcceptedWhenIdle : exDone.fsm = .idle := by decide

theorem witness_ReservedStartIsRejectedWhenIdle :
    exDone.fsm = .idle ∧ ((0b10 : BitVec 2) = 0b10 ∨ (0b10 : BitVec 2) = 0b11) ∧
    ((0b11 : BitVec 2) = 0b10 ∨ (0b11 : BitVec 2) = 0b11) := by decide

theorem witness_CtrlWriteWhileBusyOnlyNotesAStart :
    ∃ (t t' : BusWord) (s : State), s.fsm ≠ .idle ∧ t.w = true ∧ t.a = 0x00 ∧ t'.w = true ∧ t'.a = 0x00 ∧
      t.d.getLsbD 0 = true ∧ t'.d.getLsbD 0 = false :=
  ⟨0x2000000003, 0x2000000002, exAt .capHigh 1 [], by decide⟩

theorem witness_MisalignedAccessIsABusErrorOnly :
    (BusWord.a 0x2100000003).extractLsb' 0 2 ≠ 0 ∧ (BusWord.a 0x0600000000).extractLsb' 0 2 ≠ 0 ∧
    (BusWord.a 0x0300000000).extractLsb' 0 2 ≠ 0 ∧ (Instr.misalignedA0 true 0x01 3).wf = true ∧
    (Instr.misalignedA0 false 0x1F 0).wf = true ∧ (Instr.misalignedA1 false 0x06 0).wf = true := by decide

/-- A step of the instance exists, with a reset and without one. -/
theorem witness_ReadDebugParamReservedAnswer :
    (∃ t, step exIdle = .next t) ∧
    ∃ s t : State, s.input.rst = true ∧ s.params = exParams ∧ step s = .next t :=
  ⟨⟨_, State.run_next _ 0⟩,
    exAt .capLow 3 [{ rst := true, line := none, bus := none }], _, by decide, by decide, State.run_next _ 0⟩

theorem witness_StepRunsTheDecodedTransaction :
    ∃ (s t u v : State) (w : BusWord), s.input.rst = false ∧ s.input.bus = some w ∧ exec (decode w) s.consume = .next t ∧
      s.fsm = .idle ∧ u.input.rst = false ∧ u.input.bus = some w ∧ exec (decode w) u.consume = .next v ∧ u.fsm ≠ .idle :=
  ⟨exAt .idle 0 [tickOf true (some 0x2000000003)], _, exAt .capLow 1 [tickOf true (some 0x2000000003)], _, 0x2000000003,
    rfl, rfl, rfl, rfl, rfl, rfl, rfl, by decide⟩

theorem witness_TickWithoutTransactionOnlySteps :
    (exAt .capLow 3 (line [true])).input.rst = false ∧ (exAt .capLow 3 (line [true])).input.bus = none ∧
    exIdle.input.rst = false ∧ exIdle.input.bus = none := by decide

theorem witness_TransactionAndTickNeverMeet :
    ∃ (i : Instr) (s t : State), s.fsm ≠ .idle ∧ exec i s = .next t ∧ t.startIgnored ≠ s.startIgnored :=
  ⟨.wrCtrlStartB 0, exAt .capLow 1 [], _, by decide, rfl, by decide⟩

/-- For every aligned offset, at the edge at which a capture commits. -/
theorem witness_ReadsShowThePreEdgeState :
    ∀ a ∈ [(0x00 : Offset), 0x04, 0x08, 0x0C, 0x10, 0x14, 0x18, 0x1C],
      ∃ (s t : State) (w : BusWord), s.input.rst = false ∧ s.input.bus = some w ∧ w.w = false ∧ w.a = a ∧
        w.a.extractLsb' 0 2 = 0 ∧ step s = .next t ∧ s.fsm ≠ .idle ∧ t.fsm = .idle := by
  intro a ha
  refine ⟨exAt .decode 0 [tickOf true (some (BusWord.ofPorts false a 0))], _, BusWord.ofPorts false a 0, rfl, rfl, by simp,
    by simp, ?_, State.run_next _ 0, fun h => Fsm.noConfusion h, ?_⟩ <;> revert a <;> decide

/-- The whole STATUS value of the pre-edge state, the note included, at the edge at which the capture commits (R101). -/
theorem test_status_read_at_the_commit :
    ((({ exAt .decode 0 [tickOf true (some 0x0400000000)] with n := 1, startIgnored := true } : State).run 1).busRdata,
      (({ exAt .decode 0 [tickOf true (some 0x0400000000)] with n := 1, startIgnored := true } : State).run 1).busErr) =
      (0x00080103, false) := by decide

theorem witness_StatusAfterStartShowsIt :
    ∃ (s s' : State) (hi : BitVec 29) (d : Word), s.fsm = .idle ∧ s'.fsm = .idle ∧
      s.pending = { rst := false, line := none, bus := some (BusWord.ofPorts true 0x00 (hi ++ 0b01#2 ++ 1#1)) } ::
        { rst := false, line := none, bus := some (BusWord.ofPorts false 0x04 d) } :: [] ∧
      s'.pending = { rst := false, line := none, bus := some (BusWord.ofPorts true 0x00 (hi ++ 0b11#2 ++ 1#1)) } ::
        { rst := false, line := none, bus := some (BusWord.ofPorts false 0x04 d) } :: [] :=
  ⟨exAt .idle 0 _, exAt .idle 0 _, 0, 0, rfl, rfl, rfl, rfl⟩

/-- A state in which `rst` is 1, during a capture. -/
def exReset : State := exAt .capHigh 4 [{ rst := true, line := some true, bus := some 0x0600000000 }]

theorem witness_ResetEdgeSetsEveryElement : exReset.input.rst = true ∧ exReset.fsm ≠ .idle := by decide

theorem witness_RegistersReadZeroAfterReset : ∃ s t : State, s.input.rst = true ∧ step s = .next t ∧ s.fsm ≠ .idle :=
  ⟨exReset, _, by decide, State.run_next _ 0, by decide⟩

theorem witness_EveryStepKeepsTheInvariant : ∃ s t : State, s.Inv ∧ step s = .next t ∧ t.n ≠ s.n :=
  ⟨exAt .capHigh 9 (line [false]), _, exAt_inv _ _ _ (by show 1 ≤ 9 ∧ 9 < 10; decide), State.run_next _ 0, by decide⟩

theorem witness_CountersFitTheirWidths :
    exDone.Inv ∧ (exAt .capHigh 9 []).Inv ∧ (40 : Fin 100).val < exDone.n.toNat :=
  ⟨exDone_inv, exAt_inv _ _ _ (by show 1 ≤ 9 ∧ 9 < 10; decide), by decide⟩

theorem witness_SequencerFollowsItsOrder :
    ∃ s t : State, s.input.rst = false ∧ step s = .next t ∧ t.fsm ≠ s.fsm :=
  ⟨exAt .ackHigh 5 (line [false]), _, by decide, State.run_next _ 0, by decide⟩

theorem witness_OnlyASupportedStartLeavesIdle :
    (∃ s t : State, s.fsm = .idle ∧ step s = .next t ∧ t.fsm ≠ .idle) ∧
    ∃ (s t : State) (w : BusWord), s.fsm = .idle ∧ step s = .next t ∧ s.input.rst = false ∧ s.input.bus = some w ∧
      isCtrlWrite w = false :=
  ⟨⟨exAt .idle 0 [tickOf true (some 0x2000000001)], _, by decide, State.run_next _ 0, by decide⟩,
    exAt .idle 0 [tickOf false (some 0x2100000003)], _, 0x2100000003, by decide, State.run_next _ 0, by decide, by decide,
    by decide⟩

theorem witness_SampleCountChangesOnlyAsRuled :
    (∃ s t : State, step s = .next t ∧ s.fsm = .capHigh ∧ s.sample = false ∧ t.n ≠ s.n) ∧
    ∃ s t : State, step s = .next t ∧ s.fsm = .idle ∧ s.input.bus = some 0x2000000005 ∧ isStart 0x2000000005 = true ∧
      t.n ≠ s.n :=
  ⟨⟨exAt .capHigh 3 (line [false]), _, State.run_next _ 0, by decide, by decide, by decide⟩,
    { exDone with pending := [tickOf true (some 0x2000000005)] }, _, State.run_next _ 0, by decide, by decide, by decide,
    by decide⟩

theorem witness_BufferIsWrittenOnlyAtAFallingEdge :
    ∃ s t : State, step s = .next t ∧ t.buf ≠ s.buf ∧ (1 : Fin 100).val ≠ s.n.toNat :=
  ⟨exAt .capHigh 3 (line [false]), _, State.run_next _ 0, by decide, by decide⟩

theorem witness_VariantChangesOnlyAsRuled :
    ∃ s t : State, step s = .next t ∧ s.input.rst = false ∧ s.input.bus = some 0x2000000006 ∧
      isCtrlWrite 0x2000000006 = true ∧ s.fsm = .idle ∧ t.variant ≠ s.variant :=
  ⟨exAt .idle 0 [tickOf true (some 0x2000000006)], _, State.run_next _ 0, by decide, by decide, by decide, by decide,
    by decide⟩

theorem witness_StartIgnoredChangesOnlyAsRuled :
    ∃ s t : State, step s = .next t ∧ s.input.rst = false ∧ s.input.bus = some 0x2000000001 ∧ isStart 0x2000000001 = true ∧
      s.busy = true ∧ t.startIgnored ≠ s.startIgnored :=
  ⟨exAt .release 0 [tickOf true (some 0x2000000001)], _, State.run_next _ 0, by decide, by decide, by decide, by decide,
    by decide⟩

theorem witness_CaptureEndsAtOneEdge :
    (∃ s t : State, s.fsm ≠ .idle ∧ s.input.rst = false ∧ step s = .next t ∧ t.fsm = .idle ∧ s.fsm = .decode) ∧
    (∃ s t : State, s.fsm ≠ .idle ∧ s.input.rst = false ∧ step s = .next t ∧ t.fsm = .idle ∧ s.fsm = .ackLow) ∧
    ∃ s t : State, s.fsm ≠ .idle ∧ s.input.rst = false ∧ step s = .next t ∧ t.fsm ≠ .idle :=
  ⟨⟨exAt .decode 0 [], _, by decide, by decide, State.run_next _ 0, by decide, by decide⟩,
    ⟨exAt .ackLow 5 (line [true]), _, by decide, by decide, State.run_next _ 0, by decide, by decide⟩,
    exAt .ackLow 4 (line [true]), _, by decide, by decide, State.run_next _ 0, by decide⟩

theorem witness_ResultStaysUntilTheNextStart :
    ∃ s t : State, s.fsm = .idle ∧ s.input.rst = false ∧ (∀ w, s.input.bus = some w → isStart w = false) ∧
      step s = .next t ∧ t.variant ≠ s.variant :=
  ⟨{ exDone with pending := [tickOf true (some 0x2000000000)] }, _, by decide, by decide,
    fun w h => by cases h; decide, State.run_next _ 0, by decide⟩

theorem witness_ResultStaysKnownAfterAStart :
    ∃ s t : State, s.input.rst = false ∧ step s = .next t ∧
      (s.fsm ≠ .idle ∨ s.result ≠ .none ∨ ∃ w, s.input.bus = some w ∧ isStart w = true) ∧ s.fsm = .idle :=
  ⟨exAt .idle 0 [tickOf true (some 0x2000000005)], _, by decide, State.run_next _ 0,
    .inr (.inr ⟨_, rfl, by decide⟩), by decide⟩

theorem witness_DataFrameHasItsChecksum : exDone.Inv ∧ exDone.frameIsData := ⟨exDone_inv, by decide, by decide⟩

theorem witness_LineOutputsFollowTheSequencer :
    (exAt .wakeHigh 0 []).fsm = .wakeHigh ∧ (exAt .release 0 []).fsm = .release ∧ (exAt .startLow 0 []).fsm = .startLow ∧
    exIdle.fsm ≠ .wakeHigh ∧ exIdle.fsm ≠ .startLow ∧ exIdle.fsm ≠ .release := by decide

theorem witness_LineIsNotReadWhileDriven :
    (exAt .startLow 0 []).fsm ≠ .ackLow ∧ (exAt .startLow 0 []).fsm ≠ .ackHigh ∧ (exAt .startLow 0 []).fsm ≠ .capLow ∧
    (exAt .startLow 0 []).fsm ≠ .capHigh := by decide

theorem witness_DrivePhasesLastExactly :
    (∃ (s : State) (start : Nat), s.params.Wf ∧ s.fsm = .wakeHigh ∧ s.cnt = 0 ∧ (∀ j, s.NoReset j) ∧
      (s.variant = 0b00 ∧ start = s.params.tStartA) ∧ 3 < s.params.tWakeHigh ∧ s.params.tWakeHigh ≤ 4 ∧
      6 < s.params.tWakeHigh + start ∧ s.params.tWakeHigh + start ≤ 7 ∧
      8 = s.params.tWakeHigh + start + s.params.tRelease) ∧
    ∃ (s : State) (start : Nat), s.params.Wf ∧ s.fsm = .wakeHigh ∧ s.cnt = 0 ∧ (∀ j, s.NoReset j) ∧
      (s.variant = 0b01 ∧ start = s.params.tStartB) ∧ 5 < s.params.tWakeHigh + start ∧ s.params.tWakeHigh + start ≤ 6 ∧
      7 = s.params.tWakeHigh + start + s.params.tRelease :=
  ⟨⟨exAt .wakeHigh 0 [], 3, by decide, by decide, by decide, State.noReset_of_pending _ (by decide), by decide, by decide,
      by decide, by decide, by decide, by decide⟩,
    { exAt .wakeHigh 0 [] with variant := 0b01 }, 2, by decide, by decide, by decide,
    State.noReset_of_pending _ (by decide), by decide, by decide, by decide, by decide⟩

theorem witness_AckLowTakesALowOrTimesOut :
    ∃ s s' : State, s.fsm = .ackLow ∧ s.cnt = 0 ∧ 5 < s.params.ackBound ∧ s.NoReset 6 ∧ (∀ j < 5, s.sampleAt j = true) ∧
      s.sampleAt 5 = false ∧ s'.fsm = .ackLow ∧ s'.cnt = 0 ∧ 5 < s'.params.ackBound ∧ s'.NoReset 6 ∧
      (∀ j < 5, s'.sampleAt j = true) ∧ s'.sampleAt 5 = true ∧ 5 + 1 = s'.params.ackBound :=
  ⟨exAt .ackLow 0 (line [true, true, true, true, true, false]), exAt .ackLow 0 (line [true, true, true, true, true, true]),
    by decide, by decide, by decide, State.noReset_of_pending _ (by decide) 6, by decide, by decide, by decide, by decide,
    by decide, State.noReset_of_pending _ (by decide) 6, by decide, by decide, by decide⟩

theorem witness_AckHighTakesAHighOrTimesOut :
    ∃ s s' : State, s.fsm = .ackHigh ∧ s.cnt = 1 ∧ 4 + 1 < s.params.ackBound ∧ s.NoReset 5 ∧
      (∀ j < 4, s.sampleAt j = false) ∧ s.sampleAt 4 = true ∧ s'.fsm = .ackHigh ∧ s'.cnt = 1 ∧
      4 + 1 < s'.params.ackBound ∧ s'.NoReset 5 ∧ (∀ j < 4, s'.sampleAt j = false) ∧ s'.sampleAt 4 = false ∧
      4 + 2 = s'.params.ackBound :=
  ⟨exAt .ackHigh 1 (line [false, false, false, false, true]), exAt .ackHigh 1 (line [false, false, false, false, false]),
    by decide, by decide, by decide, State.noReset_of_pending _ (by decide) 5, by decide, by decide, by decide, by decide,
    by decide, State.noReset_of_pending _ (by decide) 5, by decide, by decide, by decide⟩

theorem witness_CapLowTakesAHighOrEndsTheFrame :
    ∃ s s' : State, s.fsm = .capLow ∧ s.cnt = 1 ∧ 8 + 1 < s.params.waitBound ∧ s.NoReset 9 ∧
      (∀ j < 8, s.sampleAt j = false) ∧ s.sampleAt 8 = true ∧ s'.fsm = .capLow ∧ s'.cnt = 1 ∧
      8 + 1 < s'.params.waitBound ∧ s'.NoReset 9 ∧ (∀ j < 8, s'.sampleAt j = false) ∧ s'.sampleAt 8 = false ∧
      8 + 2 = s'.params.waitBound :=
  ⟨exAt .capLow 1 (line (List.replicate 8 false ++ [true])), exAt .capLow 1 (line (List.replicate 9 false)),
    by decide, by decide, by decide, State.noReset_of_pending _ (by decide) 9, by decide, by decide, by decide, by decide,
    by decide, State.noReset_of_pending _ (by decide) 9, by decide, by decide, by decide⟩

theorem witness_HighPhaseIsRecordedAsItsWidth :
    ∃ s s' : State, s.params.Wf ∧ s.fsm = .capHigh ∧ s.cnt = 1 ∧ s.n.toNat < 100 ∧ 9 < s.params.waitBound ∧ s.NoReset 9 ∧
      (∀ j < 9 - 1, s.sampleAt j = true) ∧ s.sampleAt (9 - 1) = false ∧ s.n.toNat + 1 = 100 ∧
      s'.params.Wf ∧ s'.fsm = .capHigh ∧ s'.cnt = 1 ∧ s'.n.toNat < 100 ∧ 9 < s'.params.waitBound ∧ s'.NoReset 9 ∧
      (∀ j < 9 - 1, s'.sampleAt j = true) ∧ s'.sampleAt (9 - 1) = true ∧ 9 + 1 = s'.params.waitBound :=
  ⟨{ exAt .capHigh 1 (line (List.replicate 8 true ++ [false])) with n := 99 },
    exAt .capHigh 1 (line (List.replicate 9 true)),
    by decide, by decide, by decide, by decide, by decide, State.noReset_of_pending _ (by decide) 9, by decide, by decide,
    by decide, by decide, by decide, by decide, by decide, by decide, State.noReset_of_pending _ (by decide) 9, by decide,
    by decide, by decide⟩

theorem witness_DecodeCommitsAfterItsLatency :
    ∃ s : State, s.fsm = .decode ∧ s.cnt = 0 ∧ 1 ≤ s.params.decodeLatency ∧ (∀ j, s.NoReset j) ∧
      0 < s.params.decodeLatency ∧ 1 = s.params.decodeLatency :=
  ⟨exAt .decode 0 [], by decide, by decide, by decide, State.noReset_of_pending _ (by decide), by decide, by decide⟩

theorem witness_PhasesBeginAtDetectedEdges :
    (∃ s t : State, s.input.rst = false ∧ step s = .next t ∧ s.fsm.risingEdge s.sample = true) ∧
    (∃ s t : State, s.input.rst = false ∧ step s = .next t ∧ s.fsm.fallingEdge s.sample = true) ∧
    ∃ s t : State, s.input.rst = false ∧ step s = .next t ∧ s.fsm ≠ .idle ∧ s.fsm.risingEdge s.sample = false ∧
      s.fsm.fallingEdge s.sample = false :=
  ⟨⟨exAt .ackHigh 1 (line [true]), _, by decide, State.run_next _ 0, by decide⟩,
    ⟨exAt .capHigh 1 (line [false]), _, by decide, State.run_next _ 0, by decide⟩,
    exAt .capLow 9 (line [false]), _, by decide, State.run_next _ 0, by decide, by decide, by decide⟩

set_option maxRecDepth 4000 in
/-- A response of 41 pulses, and one of a single pulse as wide as the bound allows. -/
theorem witness_ResponseCommitsTheDecodeOfItsPulses :
    ∃ (s s' : State) (pulses pulses' : List (Nat × Nat)),
      (s.Inv ∧ s.fsm = .capHigh ∧ s.cnt = 1 ∧ s.n = 0 ∧ pulses ≠ [] ∧ pulses.length = 41 ∧
        (∀ p ∈ pulses, 1 ≤ p.1 ∧ p.1 < s.params.waitBound ∧ 1 ≤ p.2 ∧ p.2 < s.params.waitBound) ∧
        92 = (wave pulses).length - 1 + s.params.waitBound + s.params.decodeLatency ∧ s.NoReset 92 ∧
        ∀ j < 92, s.sampleAt j = ((wave pulses).drop 1)[j]?.getD true) ∧
      (s'.Inv ∧ s'.fsm = .capHigh ∧ s'.cnt = 1 ∧ s'.n = 0 ∧ pulses' ≠ [] ∧ pulses'.length ≤ 99 ∧
        (∀ p ∈ pulses', 1 ≤ p.1 ∧ p.1 < s'.params.waitBound ∧ 1 ≤ p.2 ∧ p.2 < s'.params.waitBound) ∧
        28 = (wave pulses').length - 1 + s'.params.waitBound + s'.params.decodeLatency ∧ s'.NoReset 28 ∧
        ∀ j < 28, s'.sampleAt j = ((wave pulses').drop 1)[j]?.getD true) :=
  ⟨exAt .capHigh 1 (line ((wave (List.replicate 41 (1, 1))).drop 1 ++ List.replicate 11 true)),
    exAt .capHigh 1 (line ((wave [(9, 9)]).drop 1 ++ List.replicate 11 true)), List.replicate 41 (1, 1), [(9, 9)],
    ⟨exAt_inv _ _ _ (by show 1 ≤ 1 ∧ 1 < 10; decide), by decide, by decide, by decide, by decide, by decide, by decide,
      by decide, State.noReset_of_pending _ (by decide) 92, by decide⟩,
    ⟨exAt_inv _ _ _ (by show 1 ≤ 1 ∧ 1 < 10; decide), by decide, by decide, by decide, by decide, by decide, by decide,
      by decide, State.noReset_of_pending _ (by decide) 28, by decide⟩⟩

theorem witness_EveryCaptureEndsWithinTheBound :
    ∃ s : State, s.Inv ∧ s.fsm = .idle ∧ s.input.bus = some 0x2000000003 ∧ decode 0x2000000003 = .wrCtrlStartB 0 ∧
      s.NoReset (1 + captureBound s.params 0b01) ∧ captureBound s.params 0b01 = 1810 :=
  ⟨exAt .idle 0 [tickOf true (some 0x2000000003)], exAt_inv _ _ _ (by show (0 : Nat) = 0; rfl), by decide, by decide,
    by decide, State.noReset_of_pending _ (by decide) _, by decide⟩

theorem witness_PeakIsTheLargestDataSample :
    2 ≤ [50, 2].length ∧ [50].length ≤ 1 ∧ ([] : List Nat).length ≤ 1 ∧ 2 ∈ [50, 2].drop 1 := by decide

theorem witness_ThresholdIsExact : 2 * 5 = 10 ∧ 1 ≤ 1 := by decide

theorem witness_FrameRegisterBitsAreSampleBits :
    ∃ (s : State) (samples : List Nat), samples.length = 41 ∧ s.frame = frameOf samples :=
  ⟨{ exIdle with frame := frameOf (List.replicate 41 5) }, List.replicate 41 5, by decide, rfl⟩

theorem witness_SamplesBeyondTheFrameReachNoByte :
    ∃ samples extra : List Nat, samples.length = 41 ∧ extra ≠ [] ∧ ∀ d ∈ extra, d ≤ peakOf samples :=
  ⟨List.replicate 41 5, [5], by decide, by decide, by decide⟩

theorem witness_AllZeroFrameNeverDecodes :
    ∃ samples : List Nat, samples.length = 41 ∧ (∀ d ∈ samples, 1 ≤ d) ∧
      ∀ d ∈ samples.drop 1, ∀ d' ∈ samples.drop 1, d = d' :=
  ⟨5 :: List.replicate 40 2, by decide, by decide, by decide⟩

theorem witness_CommitDependsOnTheSamplesAlone :
    ∃ s s' t t' : State, s.fsm = .decode ∧ s'.fsm = .decode ∧ s.n = s'.n ∧
      (∀ i : Fin 100, i.val < s.n.toNat → s.buf[i] = s'.buf[i]) ∧ s.input.rst = false ∧ s'.input.rst = false ∧
      step s = .next t ∧ step s' = .next t' ∧ t.fsm = .idle ∧ t'.fsm = .idle ∧ s.buf ≠ s'.buf ∧ s.variant ≠ s'.variant :=
  ⟨{ exAt .decode 0 [] with n := 1, buf := (Vector.replicate 100 3).set 0 7 },
    { exAt .decode 0 [] with n := 1, buf := (Vector.replicate 100 4).set 0 7, variant := 0b01 }, _, _, by decide, by decide,
    by decide, by decide, by decide, by decide, State.run_next _ 0, State.run_next _ 0, by decide, by decide, by decide,
    by decide⟩

end Sys2Proof.Tests
end

section
/-! The default column of R6: what rounding, rounding up and the smallest width give, and with them the constraints. -/

namespace Sys2Proof

theorem Config.le_roundDiv_iff (k num den : Nat) (hden : 0 < den) :
    k ≤ Config.roundDiv num den ↔ k * (2 * den) ≤ 2 * num + den :=
  Nat.le_div_iff_mul_le (by omega)

theorem Config.le_ceilDiv_iff (k num den : Nat) (hden : 0 < den) :
    k ≤ Config.ceilDiv num den ↔ k * den ≤ num + den - 1 :=
  Nat.le_div_iff_mul_le hden

/-- The width holds the value (R6, R21). -/
theorem Config.lt_two_pow_widthHolding (v : Nat) : v < 2 ^ Config.widthHolding v :=
  Nat.lt_log2_self

/-- One bit less would not hold the value (R6, R21). -/
theorem Config.two_pow_widthHolding_sub_one_le (v : Nat) (hv : v ≠ 0) : 2 ^ (Config.widthHolding v - 1) ≤ v :=
  Nat.log2_self_le hv

theorem Config.one_le_widthHolding (v : Nat) : 1 ≤ Config.widthHolding v :=
  Nat.le_add_left 1 (Nat.log2 v)

theorem Config.widthHolding_le_iff (v k : Nat) (hv : v ≠ 0) : Config.widthHolding v ≤ k ↔ v < 2 ^ k :=
  Nat.log2_lt hv

/-- R6's constraint column at its default column. 834 Hz is the least rate at which T_START_B does not round to 0. -/
theorem Params.defaults_wf (fTick waitBound baseAddr : Nat) (hTick : 834 ≤ fTick) (hLow : 2 ≤ waitBound)
    (hHigh : waitBound ≤ 65536) (hBase : baseAddr % 32 = 0) : (Params.defaults fTick waitBound baseAddr).Wf := by
  have hWake : 1 ≤ Config.ceilDiv (10 * fTick) 1000 := (Config.le_ceilDiv_iff _ _ _ (by decide)).mpr (by omega)
  have hStartA : 1 ≤ Config.roundDiv (25 * fTick) 10000 := (Config.le_roundDiv_iff _ _ _ (by decide)).mpr (by omega)
  have hStartB : 1 ≤ Config.roundDiv (6 * fTick) 10000 := (Config.le_roundDiv_iff _ _ _ (by decide)).mpr (by omega)
  have hAck : 2 ≤ Config.roundDiv fTick 10 := (Config.le_roundDiv_iff _ _ _ (by decide)).mpr (by omega)
  have hWidth : Config.widthHolding (waitBound - 1) ≤ 16 :=
    (Config.widthHolding_le_iff _ _ (by omega)).mpr (show waitBound - 1 < 65536 by omega)
  exact ⟨show 0 < fTick by omega, hWake, hStartA, hStartB, Nat.le_max_left 1 2, Nat.le_max_right 1 2, hAck, hLow,
    Config.lt_two_pow_widthHolding _, Config.one_le_widthHolding _, hWidth, Nat.le_refl 1, hBase⟩

/-- Settles O1: the constraints by the bounds of each default, the smallest width by the bounds of the logarithm. -/
theorem defaultParametersMeetTheirConstraints : Obligations.DefaultParametersMeetTheirConstraints := by
  intro fTick waitBound baseAddr hTick hLow hHigh hBase
  exact ⟨Params.defaults_wf fTick waitBound baseAddr hTick hLow hHigh hBase,
    Config.two_pow_widthHolding_sub_one_le (waitBound - 1) (by omega)⟩

end Sys2Proof
end

section
/-! Platform accesses of the register window (R10, R50). -/

namespace Sys2Proof.Machine

/-- Each address of the window has its offset (R50). -/
@[simp] theorem windowOffset_baseAddr_add (p : Params) (off : Offset) :
    windowOffset p (p.baseAddr + off.toNat) = some off := by
  have hin : p.baseAddr ≤ p.baseAddr + off.toNat ∧ p.baseAddr + off.toNat < p.baseAddr + 32 := by
    have := off.isLt
    omega
  rw [windowOffset, if_pos hin, Nat.add_sub_cancel_left, BitVec.ofNat_toNat, BitVec.setWidth_eq]

/-- Exactly the addresses outside the window have no offset (R50). -/
theorem windowOffset_eq_none_iff (p : Params) (addr : Nat) :
    windowOffset p addr = none ↔ addr < p.baseAddr ∨ p.baseAddr + 32 ≤ addr := by
  simp only [windowOffset, ite_eq_right_iff, reduceCtorEq, imp_false]
  omega

@[simp] theorem memRead_baseAddr_add (p : Params) (off : Offset) :
    memRead p (p.baseAddr + off.toNat) = some (BusWord.ofPorts false off 0) := by
  simp [memRead]

@[simp] theorem memWrite_baseAddr_add (p : Params) (off : Offset) (v : Word) :
    memWrite p (p.baseAddr + off.toNat) v = some (BusWord.ofPorts true off v) := by
  simp [memWrite]

theorem memRead_eq_none_iff (p : Params) (addr : Nat) :
    memRead p addr = none ↔ addr < p.baseAddr ∨ p.baseAddr + 32 ≤ addr := by
  rw [memRead, Option.map_eq_none_iff, windowOffset_eq_none_iff]

theorem memWrite_eq_none_iff (p : Params) (addr : Nat) (v : Word) :
    memWrite p addr v = none ↔ addr < p.baseAddr ∨ p.baseAddr + 32 ≤ addr := by
  rw [memWrite, Option.map_eq_none_iff, windowOffset_eq_none_iff]

/-- Settles O8: inside the window by the word each access yields, outside because the address has no offset. -/
theorem windowAccessIsItsTransaction : Obligations.WindowAccessIsItsTransaction := by
  intro p addr v
  constructor
  · rintro off rfl
    exact ⟨_, _, memRead_baseAddr_add p off, BusWord.ofPorts_w .., BusWord.ofPorts_a .., memWrite_baseAddr_add p off v,
      BusWord.ofPorts_w .., BusWord.ofPorts_a .., BusWord.ofPorts_d ..⟩
  · intro hout
    exact ⟨(memRead_eq_none_iff p addr).mpr hout, (memWrite_eq_none_iff p addr v).mpr hout⟩

end Sys2Proof.Machine
end

section
/-! The range of `cnt` (R46 (d)) as one interval: every sequencer state is entered at its first value, and a tick that does not
end the state counts one more below its limit. -/

namespace Sys2Proof.Machine

/-- The value of `cnt` with which a sequencer state is entered (R23). -/
def Fsm.cntFirst : Fsm → Nat
  | .idle | .wakeHigh | .startLow | .release | .ackLow | .decode => 0
  | .ackHigh | .capLow | .capHigh => 1

/-- The value that `cnt` never reaches in a sequencer state (R46 (d)). -/
def Fsm.cntLimit (p : Params) (variant : BitVec 2) : Fsm → Nat
  | .idle => 1
  | .wakeHigh => p.tWakeHigh
  | .startLow => p.tStart variant
  | .release => p.tRelease
  | .ackLow | .ackHigh => p.ackBound
  | .capLow | .capHigh => p.waitBound
  | .decode => p.decodeLatency

theorem State.cntInRange_iff (s : State) :
    s.CntInRange ↔ s.fsm.cntFirst ≤ s.cnt ∧ s.cnt < s.fsm.cntLimit s.params s.variant := by
  cases hf : s.fsm <;> simp [State.CntInRange, Fsm.cntFirst, Fsm.cntLimit, hf]

/-- R6 leaves room in every state. -/
theorem Fsm.cntFirst_lt_cntLimit (f : Fsm) (v : BitVec 2) {p : Params} (hp : p.Wf) : f.cntFirst < f.cntLimit p v := by
  obtain ⟨-, hWake, hStartA, hStartB, hRelease, -, hAck, hWait, -, -, -, hLatency, -⟩ := hp
  have hStart : 0 < p.tStart v := by
    unfold Params.tStart
    split_ifs <;> assumption
  cases f <;> simp only [Fsm.cntFirst, Fsm.cntLimit] <;> omega

/-- A state that has just been entered is in range. -/
theorem State.cntInRange_of_entered {s : State} (hp : s.params.Wf) (hc : s.cnt = s.fsm.cntFirst) : s.CntInRange :=
  s.cntInRange_iff.mpr ⟨hc.ge, hc ▸ s.fsm.cntFirst_lt_cntLimit s.variant hp⟩

/-- A tick that does not reach the limit stays in range. -/
theorem State.CntInRange.count {s : State} (h : s.CntInRange) (hc : s.cnt + 1 ≠ s.fsm.cntLimit s.params s.variant) :
    s.count.CntInRange := by
  obtain ⟨hlo, hhi⟩ := s.cntInRange_iff.mp h
  exact s.count.cntInRange_iff.mpr ⟨Nat.le_succ_of_le hlo, Nat.lt_of_le_of_ne hhi hc⟩

end Sys2Proof.Machine
end

section
/-! The invariant of R46, operation by operation: what each operation that a tick or a transaction applies needs to keep it. -/

namespace Sys2Proof.Machine

/-- The bus response and the step's own carriers are outside the invariant. -/
theorem State.Inv.around {s : State} (h : s.Inv) (b : Bool) (v : Word) (e : Bool) (p : List TickInput) (k : Nat) :
    (s.around b v e p k).Inv :=
  ⟨h.params, h.nBound, h.samples, h.cnt, h.result, h.capturing, h.variant, h.fresh, h.cleared, h.csum, h.resultMeans⟩

theorem State.Inv.consume {s : State} (h : s.Inv) : s.consume.Inv :=
  h.around s.startIgnored s.busRdata s.busErr s.pending.tail (s.tick + 1)

theorem State.Inv.respond {s : State} (h : s.Inv) (v : Word) (e : Bool) : (s.respond v e).Inv :=
  h.around s.startIgnored v e s.pending s.tick

/-- A state with everything cleared that a start command clears, whose sequencer state has just been entered. -/
theorem State.Inv.of_cleared {s : State} (hp : s.params.Wf) (hc : s.cnt = s.fsm.cntFirst)
    (hn : s.n = 0) (hclear : s.frame = Vector.replicate 5 0 ∧ s.peak = 0 ∧ s.csum = 0)
    (hresult : s.result = .none ∨ s.busy = false ∧ s.result = .unsupported)
    (hvariant : s.busy = true → s.variant = 0b00#2 ∨ s.variant = 0b01#2) : s.Inv where
  params := hp
  nBound := by simp [hn]
  samples i hi := by simp [hn] at hi
  cnt := State.cntInRange_of_entered hp hc
  result hb := by simpa [hb] using hresult
  capturing _ := by simp [hn]
  variant := hvariant
  fresh _ := hn
  cleared _ := hclear
  csum := by
    obtain ⟨hframe, -, hcsum⟩ := hclear
    rw [hframe, hcsum]
    decide
  resultMeans := by
    rcases hresult with hr | ⟨-, hr⟩
    · simp [State.ResultMeans, hr]
    · simpa [State.ResultMeans, hr] using ⟨hn, hclear⟩

/-- An edge with `rst` = 1 (R42, R230). -/
theorem State.Inv.resetEdge {s : State} (hp : s.params.Wf) : s.resetEdge.Inv :=
  .of_cleared hp rfl rfl ⟨rfl, rfl, rfl⟩ (.inl rfl) (fun _ => .inl rfl)

/-- An accepted start (R108). -/
theorem State.Inv.acceptStart {s : State} (hp : s.params.Wf) {k : BitVec 2} (hk : k = 0b00#2 ∨ k = 0b01#2) :
    (s.acceptStart k).Inv :=
  .of_cleared hp rfl rfl ⟨rfl, rfl, rfl⟩ (.inl rfl) (fun _ => hk)

/-- While the block is idle, `cnt` is 0 (R46 (d)), as it is where IDLE is entered. -/
theorem State.Inv.entered_of_idle {s : State} (h : s.Inv) (hf : s.fsm = .idle) : s.cnt = s.fsm.cntFirst := by
  simpa [State.CntInRange, Fsm.cntFirst, hf] using h.cnt

/-- A rejected start (R109). -/
theorem State.Inv.rejectStart {s : State} (h : s.Inv) (hf : s.fsm = .idle) (k : BitVec 2) : (s.rejectStart k).Inv := by
  have hb : (s.rejectStart k).busy = false := (State.busy_eq_false_iff _).mpr hf
  exact .of_cleared h.params (h.entered_of_idle hf) rfl ⟨rfl, rfl, rfl⟩ (.inr ⟨hb, rfl⟩) (by simp [hb])

/-- An idle state: what R46 says of a running capture says nothing of it. -/
theorem State.Inv.of_idle {s : State} (hf : s.fsm = .idle) (hp : s.params.Wf) (hn : s.n.toNat ≤ 100)
    (hsamples : ∀ i : Fin 100, i.val < s.n.toNat → 1 ≤ s.buf[i].toNat ∧ s.buf[i].toNat ≤ s.params.waitBound - 1)
    (hc : s.cnt = s.fsm.cntFirst) (hcsum : s.csum = checksumOf s.frame) (hmeans : s.ResultMeans) : s.Inv := by
  have hb : s.busy = false := s.busy_eq_false_iff.mpr hf
  exact ⟨hp, hn, hsamples, State.cntInRange_of_entered hp hc, by simp [hb], by simp [hf], by simp [hb],
    by simp [hf, Fsm.beforeCapture], by simp [hb], hcsum, hmeans⟩

/-- The variant code binds a running capture alone (R46 (g)). -/
theorem State.Inv.setVariant {s : State} (h : s.Inv) (hf : s.fsm = .idle) (k : BitVec 2) :
    ({ s with variant := k } : State).Inv :=
  .of_idle hf h.params h.nBound h.samples (h.entered_of_idle hf) h.csum h.resultMeans

/-- What a tick within a capture has to show: the sequencer, the counter and the sample buffer alone move. -/
theorem State.Inv.advance {s : State} (h : s.Inv) (hb : s.busy = true) (f : Fsm) (c : Nat) (m : BitVec 7)
    (b : Vector Sample 100) (hn : m.toNat ≤ 100)
    (hsamples : ∀ i : Fin 100, i.val < m.toNat → 1 ≤ b[i].toNat ∧ b[i].toNat ≤ s.params.waitBound - 1)
    (hcnt : ({ s with fsm := f, cnt := c } : State).CntInRange) (hcap : f = .capLow ∨ f = .capHigh → m.toNat < 100)
    (hfresh : f.beforeCapture = true → m = 0) : ({ s with fsm := f, cnt := c, n := m, buf := b } : State).Inv where
  params := h.params
  nBound := hn
  samples := hsamples
  cnt := hcnt
  result _ := h.result hb
  capturing := hcap
  variant _ := h.variant hb
  fresh := hfresh
  cleared _ := h.cleared hb
  csum := h.csum
  resultMeans := by simp [State.ResultMeans, h.result hb]

/-- A tick that only counts. -/
theorem State.Inv.count {s : State} {g : Fsm} (h : s.Inv) (hg : s.fsm = g) (hbusy : g ≠ .idle)
    (hc : s.cnt + 1 ≠ g.cntLimit s.params s.variant) : s.count.Inv := by
  subst hg
  exact h.advance (s.busy_eq_true_iff.mpr hbusy) s.fsm (s.cnt + 1) s.n s.buf h.nBound h.samples (h.cnt.count hc)
    h.capturing h.fresh

/-- A capture that has not reached its decode has room for a sample (R46 (f), R24). -/
theorem State.Inv.n_lt {s : State} {g : Fsm} (h : s.Inv) (hg : s.fsm = g) (hd : g ≠ .idle ∧ g ≠ .decode) :
    s.n.toNat < 100 := by
  subst hg
  cases hb : s.fsm.beforeCapture with
  | true => simp [h.fresh hb]
  | false => exact h.capturing (by cases hf : s.fsm <;> simp_all [Fsm.beforeCapture])

/-- A tick that moves the sequencer on within a capture: nothing goes back to before the first sample (R22, R24). -/
theorem State.Inv.goto {s : State} {g : Fsm} (h : s.Inv) (hg : s.fsm = g) (f : Fsm) (hgd : g ≠ .idle ∧ g ≠ .decode)
    (hback : f.beforeCapture = true → g.beforeCapture = true) : (s.goto f f.cntFirst).Inv := by
  have hn := h.n_lt hg hgd
  subst hg
  exact h.advance (s.busy_eq_true_iff.mpr hgd.1) f f.cntFirst s.n s.buf h.nBound h.samples
    (State.cntInRange_of_entered h.params rfl) (fun _ => hn) (fun hf => h.fresh (hback hf))

/-- The width of a high phase is recorded whole, and is a sample of R46 (c). -/
theorem State.Inv.toSample_cnt {s : State} (h : s.Inv) (hg : s.fsm = .capHigh) :
    1 ≤ (toSample s.params s.cnt).toNat ∧ (toSample s.params s.cnt).toNat ≤ s.params.waitBound - 1 := by
  obtain ⟨hlo, hhi⟩ : 1 ≤ s.cnt ∧ s.cnt < s.params.waitBound := by simpa [State.CntInRange, hg] using h.cnt
  obtain ⟨-, -, -, -, -, -, -, -, hfits, -, hwidth, -, -⟩ := h.params
  rw [toSample_toNat s.params s.cnt (by omega) hwidth]
  omega

/-- A falling edge in CAP_HIGH: one more sample, and CAP_LOW only if there is room for another (R137). -/
theorem State.Inv.record_goto {s : State} (h : s.Inv) (hg : s.fsm = .capHigh) (f : Fsm) (hf : f.beforeCapture = false)
    (hroom : f = .capLow ∨ f = .capHigh → s.n.toNat + 1 ≠ 100) : (s.record.goto f f.cntFirst).Inv := by
  have hlt : s.n.toNat < 100 := h.n_lt hg (by decide)
  have hn : s.record.n.toNat = s.n.toNat + 1 := s.record_n_toNat hlt
  have hsamples : ∀ i : Fin 100, i.val < s.record.n.toNat →
      1 ≤ s.record.buf[i].toNat ∧ s.record.buf[i].toNat ≤ s.params.waitBound - 1 := by
    intro i hi
    by_cases hlast : i.val = s.n.toNat
    · rw [s.record_buf_at i hlast]
      exact h.toSample_cnt hg
    · rw [s.record_buf_other i hlast]
      exact h.samples i (by omega)
  have hb : s.busy = true := s.busy_eq_true_iff.mpr (by simp [hg])
  refine h.advance hb f f.cntFirst s.record.n s.record.buf (by omega) hsamples
    (State.cntInRange_of_entered h.params rfl) (fun hcap => ?_) (by simp [hf])
  have := hroom hcap
  omega

/-- An acknowledgement that does not come: the registers are as the start cleared them (R134, R135, R200). -/
theorem State.Inv.timeout {s : State} {g : Fsm} (h : s.Inv) (hg : s.fsm = g) (hbefore : g.beforeCapture = true)
    (r : Result) (hr : r = .timeoutAckLow ∨ r = .timeoutAckHigh) : (s.finish r).Inv := by
  subst hg
  have hb : s.busy = true := s.busy_eq_true_iff.mpr (fun hf => by simp [hf, Fsm.beforeCapture] at hbefore)
  refine .of_idle rfl h.params h.nBound h.samples rfl h.csum ?_
  rcases hr with rfl | rfl <;> exact ⟨h.fresh hbefore, h.cleared hb⟩

theorem lengthOk_iff (samples : List Nat) : lengthOk samples = true ↔ samples.length = 41 := beq_iff_eq

theorem checksumOk_iff (f : Vector Byte 5) : checksumOk f = true ↔ f[4] = checksumOf f := beq_iff_eq

/-- The result of a decode says of the sample count and the frame what R200 lists (R165 to R168). -/
theorem State.commit_resultMeans (s : State) (hn : s.n.toNat ≤ 100) :
    (s.commit (decodeSamples s.samples)).ResultMeans := by
  have hlen : lengthOk s.samples = true ↔ s.n.toNat = 41 := by
    rw [lengthOk_iff, s.samples_length, min_eq_left hn]
  have hsum := checksumOk_iff (frameOf s.samples)
  simp only [State.ResultMeans, State.commit_result, State.commit_n, State.commit_frame, State.commit_csum, decodeSamples,
    ← hlen, ne_eq, ← hsum]
  cases lengthOk s.samples <;> cases checksumOk (frameOf s.samples) <;> simp [selectResult]

/-- The commit of a decode (R169). -/
theorem State.Inv.commit {s : State} (h : s.Inv) : (s.commit (decodeSamples s.samples)).Inv :=
  .of_idle rfl h.params h.nBound h.samples rfl rfl (s.commit_resultMeans h.nBound)

/-- Every way a tick rule ends keeps the invariant. -/
theorem TickEnds.inv {s t : State} {l : Bool} (ht : TickEnds s l t) (h : s.Inv) : t.Inv := by
  cases ht with
  | idle => exact h
  | wakeDone hf => exact h.goto hf .startLow (by decide) (by decide)
  | startDone hf => exact h.goto hf .release (by decide) (by decide)
  | releaseDone hf => exact h.goto hf .ackLow (by decide) (by decide)
  | ackFall hf => exact h.goto hf .ackHigh (by decide) (by decide)
  | ackRise hf | capRise hf => exact h.goto hf .capHigh (by decide) (by decide)
  | capLowEnd hf | capHighEnd hf => exact h.goto hf .decode (by decide) (by decide)
  | ackLowTimeout hf => exact h.timeout hf (by decide) _ (.inl rfl)
  | ackHighTimeout hf => exact h.timeout hf (by decide) _ (.inr rfl)
  | recordLast hf => exact h.record_goto hf .decode (by decide) (by simp)
  | recordMore hf hn => exact h.record_goto hf .capLow (by decide) (fun _ => hn)
  | decodeDone => exact h.commit
  | wakeCount hf hc | startCount hf hc | releaseCount hf hc | ackLowCount hf hc | ackHighCount hf hc
  | capLowCount hf hc | capHighCount hf hc | decodeCount hf hc => exact h.count hf (by decide) hc

/-- Settles O29: every effect an edge can have is an operation that keeps the invariant. -/
theorem everyStepKeepsTheInvariant : Obligations.EveryStepKeepsTheInvariant := by
  intro s t h hstep
  have hc := h.consume
  cases step_effect hstep with
  | reset => exact .resetEdge hc.params
  | capture v e => exact ((tickRule_ends s.sample s).inv h).around ..
  | quiet v e => exact hc.respond v e
  | config v e w _ hb => exact (hc.setVariant (s.busy_eq_false_iff.mp hb) _).respond v e
  | accept v e w _ _ _ _ _ hk => exact (State.Inv.acceptStart hc.params hk).respond v e
  | reject v e w _ hb => exact (hc.rejectStart (s.busy_eq_false_iff.mp hb) _).respond v e

end Sys2Proof.Machine
end

section
/-! What the invariant gives of a state: the state it starts from, and the widths of the counters (R21, R25, R42). -/

namespace Sys2Proof.Machine

/-- The parameters at `State.reset` meet R6's constraints, whatever their free values are (log 2). -/
theorem State.reset_params_wf : State.reset.params.Wf := by
  have hTick : 834 ≤ Config.fTick := Nat.le_add_right 834 _
  have hWait : 2 ≤ Config.waitBound ∧ Config.waitBound ≤ 65536 := by
    unfold Config.waitBound
    omega
  have hBase : Config.baseAddr % 32 = 0 := Nat.mul_mod_right 32 _
  exact Params.defaults_wf _ _ _ hTick hWait.1 hWait.2 hBase

/-- Settles O28: the values by the definition, the invariant as of any state with everything cleared. -/
theorem resetStateMeetsTheInvariant : Obligations.ResetStateMeetsTheInvariant := by
  have hinv : State.reset.Inv :=
    .of_cleared State.reset_params_wf rfl rfl ⟨rfl, rfl, rfl⟩ (.inl rfl) (fun _ => .inl rfl)
  exact ⟨hinv, rfl, rfl, rfl, rfl, rfl, rfl, rfl, rfl, rfl, rfl, rfl⟩

/-- Every limit of `cnt` is among the durations from which CNT_WIDTH is derived (R21). -/
theorem Fsm.cntLimit_lt_two_pow (f : Fsm) (v : BitVec 2) {p : Params} (hp : p.Wf) :
    f.cntLimit p v - 1 < 2 ^ p.cntWidth := by
  obtain ⟨-, hWake, -⟩ := hp
  refine lt_of_le_of_lt (Nat.sub_le_sub_right ?_ 1) (Config.lt_two_pow_widthHolding _)
  cases f with
  | idle => exact le_max_of_le_left hWake
  | startLow =>
    unfold Fsm.cntLimit Params.tStart
    split_ifs <;> simp only [le_max_iff, le_refl, true_or, or_true]
  | _ => simp only [Fsm.cntLimit, le_max_iff, le_refl, true_or, or_true]

/-- Settles O30: `cnt` stays below a limit that CNT_WIDTH holds, a sample below WAIT_BOUND, which COUNT_WIDTH holds. -/
theorem countersFitTheirWidths : Obligations.CountersFitTheirWidths := by
  intro s h
  obtain ⟨-, hlt⟩ := s.cntInRange_iff.mp h.cnt
  have hwidth := s.fsm.cntLimit_lt_two_pow s.variant h.params
  obtain ⟨-, -, -, -, -, -, -, -, hfits, -⟩ := h.params
  exact ⟨by omega, fun i hi => lt_of_le_of_lt (h.samples i hi).2 hfits⟩

end Sys2Proof.Machine
end

section
/-! What an edge does to one element, element by element (R22 to R28): read off the inversion lemmas of the tick rule and of
the edge. -/

namespace Sys2Proof.Machine

theorem State.startPresented_iff (s : State) :
    s.startPresented = true ↔ ∃ w, s.input.bus = some w ∧ isStart w = true := by
  unfold State.startPresented
  cases s.input.bus <;> simp

/-- A tick without a CTRL write presents no start command. -/
theorem State.startPresented_eq_false {s : State} (hc : ∀ w, s.input.bus = some w → isCtrlWrite w = false) :
    s.startPresented = false := by
  unfold State.startPresented
  cases hi : s.input.bus with
  | none => rfl
  | some w => simp [isStart, hc w hi]

/-- The presented start command is the transaction's own. -/
theorem State.startPresented_of_some {s : State} {w : BusWord} (hw : s.input.bus = some w) :
    s.startPresented = isStart w := by
  simp [State.startPresented, hw]

/-- A tick rule moves along the order of the sequencer's states (R130 to R138). -/
theorem TickEnds.fsm_mem_successors {s t : State} {l : Bool} (ht : TickEnds s l t) : t.fsm ∈ s.fsm.successors := by
  cases ht <;> simp [Fsm.successors, *]

/-- A tick rule counts a sample only at a falling edge of CAP_HIGH (R137). -/
theorem tickRule_n (l : Bool) (s : State) :
    (tickRule l s).n = if s.fsm = .capHigh ∧ l = false then s.n + 1 else s.n := by
  have h := tickRule_ends l s
  generalize tickRule l s = t at h
  cases h <;> simp [*]

/-- A tick rule records a sample only at a falling edge of CAP_HIGH (R137). -/
theorem tickRule_buf (l : Bool) (s : State) :
    (tickRule l s).buf = if s.fsm = .capHigh ∧ l = false then s.record.buf else s.buf := by
  have h := tickRule_ends l s
  generalize tickRule l s = t at h
  cases h <;> simp [*]

/-- A capture ends with a result (R134, R135, R168); a tick that does not end it leaves the sequencer busy. -/
theorem TickEnds.result_ne_none {s t : State} {l : Bool} (ht : TickEnds s l t) (hf : s.fsm ≠ .idle)
    (hidle : t.fsm = .idle) : t.result ≠ .none := by
  cases ht with
  | ackLowTimeout => simp
  | ackHighTimeout => simp
  | decodeDone => exact decodeSamples_result_ne_none _
  | _ => simp_all

/-- Settles O31: along the order by the tick rule while busy, into WAKE_HIGH or nowhere while idle. -/
theorem sequencerFollowsItsOrder : Obligations.SequencerFollowsItsOrder := by
  intro s t hr hstep
  cases step_effect hstep with
  | reset hr' => simp [hr] at hr'
  | capture => exact (tickRule_ends s.sample s).fsm_mem_successors
  | quiet _ _ _ hb | config _ _ _ _ hb | accept _ _ _ _ hb | reject _ _ _ _ hb =>
    simp [s.busy_eq_false_iff.mp hb, Fsm.successors]

/-- Settles O33: a capture counts at a falling edge alone, and an idle block's `n` is cleared by a start alone. -/
theorem sampleCountChangesOnlyAsRuled : Obligations.SampleCountChangesOnlyAsRuled := by
  intro s t hstep
  simp only [← s.startPresented_iff]
  cases step_effect hstep with
  | reset hr => simp [hr]
  | capture v e hr hb => simp [hr, s.busy_eq_true_iff.mp hb, tickRule_n]
  | quiet v e hr hb hc => simp [hr, s.busy_eq_false_iff.mp hb, State.startPresented_eq_false hc]
  | config v e w hr hb hw _ hs | accept v e w hr hb hw _ hs | reject v e w hr hb hw _ hs =>
    simp [hr, s.busy_eq_false_iff.mp hb, State.startPresented_of_some hw, hs]

/-- An edge writes the buffer only where CAP_HIGH reads a low sample, and then as recording does (R57, R137). -/
theorem step_buf {s t : State} (hstep : step s = .next t) :
    t.buf = if s.input.rst = false ∧ s.fsm = .capHigh ∧ s.sample = false then s.record.buf else s.buf := by
  cases step_effect hstep with
  | reset hr => simp [hr]
  | capture v e hr hb => simp [hr, tickRule_buf]
  | quiet _ _ _ hb | config _ _ _ _ hb | accept _ _ _ _ hb | reject _ _ _ _ hb => simp [s.busy_eq_false_iff.mp hb]

/-- Settles O34: the one write of the buffer is a recording, which writes entry n alone. -/
theorem bufferIsWrittenOnlyAtAFallingEdge : Obligations.BufferIsWrittenOnlyAtAFallingEdge := by
  intro s t hstep
  rw [step_buf hstep]
  split_ifs with hfall
  · exact ⟨fun _ => hfall, fun i hi => s.record_buf_other i hi⟩
  · exact ⟨fun hne => absurd rfl hne, fun i _ => rfl⟩

/-- Settles O35: no tick rule writes VARIANT, and of the transactions a CTRL write while idle alone. -/
theorem variantChangesOnlyAsRuled : Obligations.VariantChangesOnlyAsRuled := by
  intro s t hstep
  cases step_effect hstep with
  | reset hr => simp [hr]
  | capture v e hr hb => cases hi : s.input.bus <;> simp [hr, s.busy_eq_true_iff.mp hb]
  | quiet v e hr _ hc =>
    cases hi : s.input.bus with
    | none => simp [hr]
    | some w => simp [hr, hc w hi]
  | config v e w hr hb hw hc | accept v e w hr hb hw hc | reject v e w hr hb hw hc =>
    simp [hr, s.busy_eq_false_iff.mp hb, hw, hc, ctrlVariant]

/-- An edge without a reset writes START_IGNORED only where a start is presented: 1 while busy, 0 while idle (R28). -/
theorem step_startIgnored {s t : State} (hstep : step s = .next t) :
    t.startIgnored =
      if s.input.rst then false else if s.startPresented = true then s.busy else s.startIgnored := by
  cases step_effect hstep with
  | reset hr => simp [hr]
  | capture v e hr hb => cases hs : s.startPresented <;> simp [hr, hb]
  | quiet v e hr hb hc => simp [hr, State.startPresented_eq_false hc]
  | config v e w hr hb hw _ hs | accept v e w hr hb hw _ hs | reject v e w hr hb hw _ hs =>
    simp [hr, hb, State.startPresented_of_some hw, hs]

/-- Settles O36: the start presented is the transaction's, where there is one. -/
theorem startIgnoredChangesOnlyAsRuled : Obligations.StartIgnoredChangesOnlyAsRuled := by
  intro s t hstep
  rw [step_startIgnored hstep]
  cases hi : s.input.bus <;> simp [State.startPresented, hi]

/-- Settles O39: a capture that ends leaves a result, and an idle block drops a result only to start a capture. -/
theorem resultStaysKnownAfterAStart : Obligations.ResultStaysKnownAfterAStart := by
  intro s t hr hstep hknown
  rw [← s.startPresented_iff] at hknown
  cases step_effect hstep with
  | reset hr' => simp [hr] at hr'
  | capture v e _ hb =>
    by_cases hidle : (tickRule s.sample s).fsm = .idle
    · exact .inr ((tickRule_ends s.sample s).result_ne_none (s.busy_eq_true_iff.mp hb) hidle)
    · exact .inl hidle
  | quiet v e _ _ hc =>
    have hns := State.startPresented_eq_false hc
    simpa [hns] using hknown
  | config v e w _ _ hw _ hs =>
    have hns : s.startPresented = false := (State.startPresented_of_some hw).trans hs
    simpa [hns] using hknown
  | accept => exact .inl (by simp)
  | reject => exact .inr (by simp)

end Sys2Proof.Machine
end

section
/-! The input synchronizer (R45). -/

namespace Sys2Proof.Machine

/-- Settles O60, level by level: each edge gives the oldest held level away and takes the new one in at the end. -/
theorem synchronizerDelaysByItsStages : Obligations.SynchronizerDelaysByItsStages := by
  intro stages levels
  induction levels generalizing stages with
  | nil => simp [synchronize]
  | cons l ls ih =>
    cases stages with
    | nil => simpa [synchronize, synchronizeTick] using ih []
    | cons held rest => simp [synchronize, synchronizeTick, ih]

end Sys2Proof.Machine
end

section
/-! What the registers read, field by field (R35 to R39), after a reset (R42), and the line outputs (R44). -/

namespace Sys2Proof.Machine

/-- The fields of a word that is laid out as STATUS is (R36). -/
theorem statusLayout_fields (f : BitVec 4) (n : BitVec 7) (r : BitVec 3) (i b : Bool)
    (v : BitVec (12 + 4 + 1 + 7 + 3 + 3 + 1 + 1))
    (hv : v = 0#12 ++ f ++ 0#1 ++ n ++ 0#3 ++ r ++ BitVec.ofBool i ++ BitVec.ofBool b) :
    v.getLsbD 0 = b ∧ v.getLsbD 1 = i ∧ v.extractLsb' 2 3 = r ∧ v.extractLsb' 5 3 = 0#3 ∧ v.extractLsb' 8 7 = n ∧
    v.extractLsb' 15 1 = 0#1 ∧ v.extractLsb' 16 4 = f ∧ v.extractLsb' 20 12 = 0#12 := by
  subst hv
  refine ⟨?_, ?_, ?_⟩
  · rw [BitVec.getLsbD_append]
    simp
  · rw [BitVec.getLsbD_append, BitVec.getLsbD_append]
    simp
  · simp (discharger := decide) only [field_append_low, field_append_high, field_whole, Nat.reduceSub, and_self]

/-- Settles O10: a read answers STATUS, and each field lies whole in its layout. -/
theorem readStatusAnswersItsFields : Obligations.ReadStatusAnswersItsFields := by
  intro d s
  obtain ⟨hbusy, hfields⟩ :=
    statusLayout_fields s.fsm.code s.n s.result.code s.startIgnored s.busy s.statusValue rfl
  refine ⟨by simp [decodePorts, decodeRead], s.statusValue, rfl, ?_, hfields⟩
  rw [hbusy, s.busy_eq_true_iff]

/-- The four bytes of a word (R37). -/
theorem bytes_fields (a b c d : Byte) :
    (a ++ b ++ c ++ d).extractLsb' 24 8 = a ∧ (a ++ b ++ c ++ d).extractLsb' 16 8 = b ∧
    (a ++ b ++ c ++ d).extractLsb' 8 8 = c ∧ (a ++ b ++ c ++ d).extractLsb' 0 8 = d := by
  simp (discharger := decide) only [field_append_low, field_append_high, field_whole, Nat.reduceSub, and_self]

/-- Settles O11: a read answers its register, and each byte lies whole in it. -/
theorem readFrameAnswersItsBytes : Obligations.ReadFrameAnswersItsBytes := by
  intro d s
  exact ⟨by simp [decodePorts, decodeRead], by simp [decodePorts, decodeRead],
    ⟨s.frame0Value, rfl, bytes_fields s.frame[0] s.frame[1] s.frame[2] s.frame[3]⟩,
    ⟨s.frame1Value, rfl, BitVec.extractLsb'_append_eq_right, BitVec.extractLsb'_append_eq_left⟩⟩

/-! ### After a reset edge -/

theorem State.resetEdge_ctrlValue (s : State) : s.resetEdge.ctrlValue = 0 := by simp [State.ctrlValue]

theorem State.resetEdge_statusValue (s : State) : s.resetEdge.statusValue = 0 := by
  simp [State.statusValue, State.busy, Fsm.code, Result.code]

theorem State.resetEdge_frame0Value (s : State) : s.resetEdge.frame0Value = 0 := by simp [State.frame0Value]

theorem State.resetEdge_frame1Value (s : State) : s.resetEdge.frame1Value = 0 := by simp [State.frame1Value]

theorem State.resetEdge_debugValue (s : State) : s.resetEdge.debugValue = 0 := by simp [State.debugValue]

/-- Settles O27: a read answers its register, and each of the five is 0 after a reset edge. -/
theorem registersReadZeroAfterReset : Obligations.RegistersReadZeroAfterReset := by
  intro s t hr hstep
  obtain rfl := step_unique (step_reset s hr) hstep
  have answer : ∀ v : Word, v = 0 → (Host.Outcome.next (s.consume.resetEdge.respond v false) :
      Host.Outcome State Fault Refusal) = .next { s.consume.resetEdge with busRdata := 0, busErr := false } := by
    rintro _ rfl
    rfl
  refine ⟨?_, rfl, rfl, rfl⟩
  intro d i hi
  simp only [List.mem_cons, List.not_mem_nil, or_false] at hi
  rcases hi with rfl | rfl | rfl | rfl | rfl
  · exact answer _ s.consume.resetEdge_ctrlValue
  · exact answer _ s.consume.resetEdge_statusValue
  · exact answer _ s.consume.resetEdge_frame0Value
  · exact answer _ s.consume.resetEdge_frame1Value
  · exact answer _ s.consume.resetEdge_debugValue

/-! ### The line outputs -/

/-- Settles O41: by the sequencer's states; the wire as it is driven by the block alone, or released. -/
theorem lineOutputsFollowTheSequencer : Obligations.LineOutputsFollowTheSequencer := by
  intro s
  refine ⟨fun hf => ?_, fun hf => ?_, fun hwake hstart hrelease => ?_⟩
  · have hoe : s.lineOe = true := by rcases hf with hf | hf <;> simp [State.lineOe, Fsm.lineOe, hf]
    have hout : s.lineOut = true := by rcases hf with hf | hf <;> simp [State.lineOut, Fsm.lineOut, hf]
    exact ⟨hoe, hout, (s.wireLevel_driven hoe).trans hout⟩
  · have hoe : s.lineOe = true := by simp [State.lineOe, Fsm.lineOe, hf]
    have hout : s.lineOut = false := by simp [State.lineOut, Fsm.lineOut, hf]
    exact ⟨hoe, hout, (s.wireLevel_driven hoe).trans hout⟩
  · have hoe : s.lineOe = false := by cases hf : s.fsm <;> simp_all [State.lineOe, Fsm.lineOe]
    have hout : s.lineOut = true := by cases hf : s.fsm <;> simp_all [State.lineOut, Fsm.lineOut]
    exact ⟨hoe, hout, s.wireLevel_released hoe none, fun l => s.wireLevel_released hoe (some l)⟩

end Sys2Proof.Machine
end

section
/-! What a transaction reads of the state and what it answers (R58 to R60, R100 to R106), and how an edge with a transaction is
put together (R115). -/

namespace Sys2Proof.Machine

theorem isCtrlWrite_eq_false_iff (t : BusWord) : isCtrlWrite t = false ↔ t.w = false ∨ t.a ≠ 0x00#5 := by
  cases hw : t.w <;> simp [isCtrlWrite, hw]

/-- No transaction reads the bus outputs of the last tick (log 9). -/
theorem exec_respond (i : Instr) (s : State) (v : Word) (e : Bool) : exec i (s.respond v e) = exec i s := by
  have hb := s.respond_busy v e
  cases i with
  | wrCtrlCfg | wrCtrlStartA | wrCtrlStartB | wrCtrlStartRsv =>
    cases h : s.busy <;>
      simp only [exec, execWrCtrlCfg, execWrCtrlStartA, execWrCtrlStartB, execWrCtrlStartRsv, hb, h] <;> rfl
  | _ => rfl

/-- Settles O13: such a transaction only answers, and the answer does not depend on the one before. -/
theorem onlyCtrlWritesChangeState : Obligations.OnlyCtrlWritesChangeState := by
  intro t s ht
  obtain ⟨v, e, h⟩ := exec_no_ctrl_write t s ((isCtrlWrite_eq_false_iff t).mpr ht)
  exact ⟨v, e, h, (exec_respond (decode t) s v e).trans h⟩

/-- The register at an aligned offset (R55). -/
def State.register (s : State) (a : Offset) : Word :=
  if a = 0x00#5 then s.ctrlValue
  else if a = 0x04#5 then s.statusValue
  else if a = 0x08#5 then s.frame0Value
  else if a = 0x0C#5 then s.frame1Value
  else if a = 0x10#5 then s.debugValue
  else if a = 0x14#5 then s.paramValue
  else reservedValue

theorem exec_decodeRead (a : Offset) (d : Word) (s : State) :
    exec (decodeRead a d) s = .next (s.respond (s.register a) false) := by
  unfold decodeRead State.register
  split_ifs <;> rfl

/-- An aligned read answers its register, whatever D is (R59, R100 to R106). -/
theorem exec_aligned_read (t : BusWord) (s : State) (hw : t.w = false) (ha : t.a.extractLsb' 0 2 = 0) :
    exec (decode t) s = .next (s.respond (s.register t.a) false) := by
  obtain ⟨h0, h1⟩ := (Offset.aligned_iff t.a).mp ha
  rw [decode, decodePorts_aligned _ _ _ h0 h1, hw]
  exact exec_decodeRead t.a t.d s

/-- An edge without a reset and without a transaction (R114). -/
theorem step_of_no_bus {s : State} (hr : s.input.rst = false) (hi : s.input.bus = none) :
    step s = .next (blockStep s s.consume.noTransaction) := by
  simp [step, hr, hi]

/-- An edge without a reset and with a transaction (R115). -/
theorem step_of_exec {s u : State} {w : BusWord} (hr : s.input.rst = false) (hi : s.input.bus = some w)
    (hu : exec (decode w) s.consume = .next u) : step s = .next (blockStep s u) := by
  simp [step, hr, hi, hu]

@[simp] theorem blockStep_busRdata (pre s : State) : (blockStep pre s).busRdata = s.busRdata := by
  cases hb : pre.busy <;> simp [blockStep, hb]

@[simp] theorem blockStep_busErr (pre s : State) : (blockStep pre s).busErr = s.busErr := by
  cases hb : pre.busy <;> simp [blockStep, hb]

/-- BUSY as its rule writes it (R32). -/
theorem State.busy_eq_decide (s : State) : s.busy = decide (s.fsm ≠ .idle) := by
  rw [Bool.eq_iff_iff, s.busy_eq_true_iff, decide_eq_true_iff]

/-- Settles O24: the answer is the register of the pre-edge state, and the block's own part of the edge, a commit too, leaves
the answer as it is. -/
theorem readsShowThePreEdgeState : Obligations.ReadsShowThePreEdgeState := by
  intro s t w hr hi hw ha hstep
  have hread : exec (decode w) s.consume = .next (s.consume.respond (s.register w.a) false) :=
    exec_aligned_read w s.consume hw ha
  obtain rfl := step_unique (step_of_exec hr hi hread) hstep
  refine ⟨by simp, ?_⟩
  rw [blockStep_busRdata, State.respond_busRdata, ← s.busy_eq_decide]
  rfl

end Sys2Proof.Machine
end

section
/-! The end of a capture and the time after it (R61), and where a tick reads the line (R63). -/

namespace Sys2Proof.Machine

/-- A capture ends by its decode's commit or by an acknowledgement that does not come (R134, R135, R169). -/
theorem TickEnds.end_cases {s t : State} {l : Bool} (ht : TickEnds s l t) (hf : s.fsm ≠ .idle) (hidle : t.fsm = .idle) :
    (s.fsm = .decode ∧ t = s.commit (decodeSamples s.samples)) ∨
    (s.fsm = .ackLow ∧ t = s.finish .timeoutAckLow) ∨ (s.fsm = .ackHigh ∧ t = s.finish .timeoutAckHigh) := by
  cases ht with
  | decodeDone hg => exact .inl ⟨hg, rfl⟩
  | ackLowTimeout hg => exact .inr (.inl ⟨hg, rfl⟩)
  | ackHighTimeout hg => exact .inr (.inr ⟨hg, rfl⟩)
  | _ => simp_all

/-- A tick that does not end a capture leaves the result registers as they are (R61). -/
theorem TickEnds.result_registers {s t : State} {l : Bool} (ht : TickEnds s l t) (hbusy : t.fsm ≠ .idle) :
    t.result = s.result ∧ t.frame = s.frame ∧ t.peak = s.peak ∧ t.csum = s.csum := by
  cases ht with
  | decodeDone | ackLowTimeout | ackHighTimeout => exact absurd rfl hbusy
  | _ => exact ⟨rfl, rfl, rfl, rfl⟩

/-- Settles O37: an edge of a capture is a tick rule's, which ends it in one of three ways or keeps the registers. -/
theorem captureEndsAtOneEdge : Obligations.CaptureEndsAtOneEdge := by
  intro s t hf hr hstep
  cases step_effect hstep with
  | capture v e =>
    have hends := tickRule_ends s.sample s
    generalize tickRule s.sample s = u at hends
    split_ifs with hidle
    · have hresult := hends.result_ne_none hf hidle
      rcases hends.end_cases hf hidle with ⟨hg, rfl⟩ | ⟨hg, rfl⟩ | ⟨hg, rfl⟩
      · exact ⟨rfl, rfl, rfl, hresult, .inl ⟨hg, rfl, rfl, rfl, rfl⟩⟩
      · exact ⟨rfl, rfl, rfl, hresult, .inr ⟨.inl ⟨hg, rfl⟩, rfl, rfl, rfl⟩⟩
      · exact ⟨rfl, rfl, rfl, hresult, .inr ⟨.inr ⟨hg, rfl⟩, rfl, rfl, rfl⟩⟩
    · exact hends.result_registers hidle
  | reset hr' => simp [hr] at hr'
  | quiet _ _ _ hb | config _ _ _ _ hb | accept _ _ _ _ hb | reject _ _ _ _ hb =>
    exact absurd (s.busy_eq_false_iff.mp hb) hf

/-- Settles O38: of the effects an edge can have, only an answer and a change of VARIANT are left. -/
theorem resultStaysUntilTheNextStart : Obligations.ResultStaysUntilTheNextStart := by
  intro s t hf hr hstart hstep
  cases step_effect hstep with
  | quiet => rfl
  | config => rfl
  | accept _ _ w _ _ hw _ hs | reject _ _ w _ _ hw _ hs => simp [hstart w hw] at hs
  | reset hr' => simp [hr] at hr'
  | capture _ _ _ hb => exact absurd hf (s.busy_eq_true_iff.mp hb)

/-- The sequencer states whose rule has a case by the line sample: the waits for the sensor and the capture loop (R134 to
R137). -/
def Fsm.readsLine : Fsm → Bool
  | .ackLow | .ackHigh | .capLow | .capHigh => true
  | .idle | .wakeHigh | .startLow | .release | .decode => false

theorem tickRule_line (l l' : Bool) {s : State} (h : s.fsm.readsLine = false) : tickRule l s = tickRule l' s := by
  cases hf : s.fsm with
  | ackLow | ackHigh | capLow | capHigh => simp [hf, Fsm.readsLine] at h
  | idle | wakeHigh | startLow | release | decode => simp only [tickRule, hf]

/-- The block's own part of an edge reads nothing of the pre-edge state but BUSY and the line sample, and the sample only in
the states that read the line. -/
theorem blockStep_line {pre pre' u : State} (hb : pre.busy = pre'.busy)
    (hu : pre.busy = true → u.fsm.readsLine = false) : blockStep pre u = blockStep pre' u := by
  unfold blockStep
  rw [← hb]
  split_ifs with hbusy
  · exact tickRule_line _ _ (hu hbusy)
  · rfl

/-- A transaction answers a next state, and leaves a running capture in its sequencer state (R110, R115). -/
theorem exec_next (i : Instr) (s : State) : ∃ u, exec i s = .next u ∧ (s.busy = true → u.fsm = s.fsm) := by
  cases hb : s.busy with
  | true =>
    obtain ⟨b, v, e, hx⟩ := exec_busy i s hb
    exact ⟨_, hx, fun _ => by simp⟩
  | false =>
    obtain ⟨v, e, hx | ⟨k, hx⟩ | ⟨k, -, hx⟩ | ⟨k, hx⟩⟩ := exec_idle i s hb <;> exact ⟨_, hx, nofun⟩

/-- Settles O42: the two edges agree in what the bus does, and the block's own part does not read the line. -/
theorem lineIsNotReadWhileDriven : Obligations.LineIsNotReadWhileDriven := by
  intro s b l l' rest hackLow hackHigh hcapLow hcapHigh
  have hline : s.fsm.readsLine = false := by
    cases hf : s.fsm <;> simp_all [Fsm.readsLine]
  cases b with
  | none =>
    rw [step_of_no_bus rfl rfl, step_of_no_bus rfl rfl]
    exact congrArg _ (blockStep_line rfl fun _ => hline)
  | some w =>
    obtain ⟨u, hu, hfsm⟩ := exec_next (decode w) { s with pending := rest, tick := s.tick + 1 }
    rw [step_of_exec rfl rfl hu, step_of_exec rfl rfl hu]
    exact congrArg _ (blockStep_line rfl fun hb => (hfsm hb).symm ▸ hline)

end Sys2Proof.Machine
end

section
/-! The frame bit by bit (R53, R54, R163): which bits a byte takes, where each stands in it, and where the byte stands in the
registers. -/

namespace Sys2Proof.Machine

/-- The byte after bits have been shifted into it one after the other (R163). -/
def appendBits (v : Byte) (bits : List Bool) : Byte :=
  bits.foldl (fun v b => (v <<< 1) ||| BitVec.setWidth 8 (BitVec.ofBool b)) v

theorem appendBits_cons (v : Byte) (b : Bool) (bs : List Bool) :
    appendBits v (b :: bs) = appendBits ((v <<< 1) ||| BitVec.setWidth 8 (BitVec.ofBool b)) bs := rfl

theorem appendBits_concat (v : Byte) (bs : List Bool) (b : Bool) :
    appendBits v (bs ++ [b]) = (appendBits v bs <<< 1) ||| BitVec.setWidth 8 (BitVec.ofBool b) := by
  simp [appendBits]

/-- Of a row whose first bit has index k, byte i takes the bits with indices 8i to 8i + 7, as far as there are such (R163). -/
theorem fillFrame_getElem (bits : List Bool) (k i : Nat) (f : Vector Byte 5) (hi : i < 5) :
    (fillFrame bits k f)[i] = appendBits f[i] ((bits.take (8 * i + 8 - k)).drop (8 * i - k)) := by
  induction bits generalizing k f with
  | nil => simp [fillFrame, appendBits]
  | cons b bs ih =>
    rw [fillFrame, ih, shiftInto_getElem _ _ _ _ hi]
    rcases lt_or_ge k (8 * i) with hbefore | hfrom
    · rw [if_neg (by omega), show 8 * i + 8 - k = (8 * i + 8 - (k + 1)) + 1 by omega,
        show 8 * i - k = (8 * i - (k + 1)) + 1 by omega, List.take_succ_cons, List.drop_succ_cons]
    · rw [Nat.sub_eq_zero_of_le hfrom, Nat.sub_eq_zero_of_le (Nat.le_succ_of_le hfrom), List.drop_zero, List.drop_zero]
      rcases lt_or_ge k (8 * i + 8) with hwithin | hafter
      · rw [if_pos (by omega), show 8 * i + 8 - k = (8 * i + 8 - (k + 1)) + 1 by omega, List.take_succ_cons,
          appendBits_cons]
      · rw [if_neg (by omega), Nat.sub_eq_zero_of_le hafter, Nat.sub_eq_zero_of_le (Nat.le_succ_of_le hafter),
          List.take_zero, List.take_zero]

/-- Byte i of the frame takes the bits 8i to 8i + 7 that the samples give (R163). -/
theorem frameOf_getElem (samples : List Nat) (i : Nat) (hi : i < 5) :
    (frameOf samples)[i] = appendBits 0 (((frameBitsOf samples).drop (8 * i)).take 8) := by
  rw [frameOf, fillFrame_getElem _ _ _ _ hi, Vector.getElem_replicate, List.drop_take]
  simp

/-- Of the last eight bits shifted in, the m-th from the end stands at bit m (R53). -/
theorem appendBits_getLsbD (v : Byte) (bits : List Bool) (m : Nat) (hm : m < bits.length) (h8 : m < 8) :
    (appendBits v bits).getLsbD m = bits[bits.length - 1 - m] := by
  induction bits using List.reverseRecOn generalizing m with
  | nil => simp at hm
  | append_singleton bs b ih =>
    rw [appendBits_concat, BitVec.getLsbD_or, BitVec.getLsbD_shiftLeft]
    cases m with
    | zero => simp
    | succ m =>
      have hbs : m < bs.length := by simpa using hm
      simp [h8, ih m hbs (by omega), List.getElem_append_left, Nat.sub_sub, Nat.add_comm 1 m,
        show bs.length - (m + 1) < bs.length by omega]

theorem frameBitsOf_getElem (samples : List Nat) (i : Nat) (hi : i < (frameBitsOf samples).length) :
    (frameBitsOf samples)[i] =
      bitOf (peakOf samples) (samples[i + 1]'(by simp [frameBitsOf] at hi; omega)) := by
  simp [frameBitsOf]

/-- Of a complete frame, the bit of sample i + 1 stands in byte i / 8, highest bit first (R54, R163). -/
theorem frameOf_getLsbD (samples : List Nat) (h : samples.length = 41) (i : Nat) (hi : i < 40) :
    (frameOf samples)[i / 8].getLsbD (7 - i % 8) = bitOf (peakOf samples) samples[i + 1] := by
  have hlen : (frameBitsOf samples).length = 40 := by simp [frameBitsOf, h]
  have hbyte : (((frameBitsOf samples).drop (8 * (i / 8))).take 8).length = 8 := by
    simp [hlen]
    omega
  rw [frameOf_getElem, appendBits_getLsbD _ _ _ (by omega) (by omega), List.getElem_take, List.getElem_drop,
    frameBitsOf_getElem]
  simp only [hbyte, show 8 * (i / 8) + (8 - 1 - (7 - i % 8)) + 1 = i + 1 by omega]

/-- Bits above the last byte of a concatenation. -/
theorem append_byte_getLsbD_high {n : Nat} (x : BitVec n) (b : Byte) (i : Nat) :
    (x ++ b).getLsbD (i + 8) = x.getLsbD i := by
  rw [BitVec.getLsbD_append, if_neg (by omega), Nat.add_sub_cancel]

/-- Bits in the last byte of a concatenation. -/
theorem append_byte_getLsbD_low {n : Nat} (x : BitVec n) (b : Byte) (i : Nat) (hi : i < 8) :
    (x ++ b).getLsbD i = b.getLsbD i := by
  rw [BitVec.getLsbD_append, if_pos hi]

/-- Byte k of the frame stands 4 - k bytes from the right in the 40-bit frame (R83). -/
theorem State.frameBits_getLsbD_byte (s : State) (k m : Nat) (hk : k < 5) (hm : m < 8) :
    s.frameBits.getLsbD (m + 8 * (4 - k)) = s.frame[k].getLsbD m := by
  rw [State.frameBits]
  interval_cases k
  · rw [append_byte_getLsbD_high _ _ (m + 24), append_byte_getLsbD_high _ _ (m + 16), append_byte_getLsbD_high _ _ (m + 8),
      append_byte_getLsbD_high _ _ m]
  · rw [append_byte_getLsbD_high _ _ (m + 16), append_byte_getLsbD_high _ _ (m + 8), append_byte_getLsbD_high _ _ m,
      append_byte_getLsbD_low _ _ m hm]
  · rw [append_byte_getLsbD_high _ _ (m + 8), append_byte_getLsbD_high _ _ m, append_byte_getLsbD_low _ _ m hm]
  · rw [append_byte_getLsbD_high _ _ m, append_byte_getLsbD_low _ _ m hm]
  · exact append_byte_getLsbD_low _ _ m hm

/-- FRAME0 is the upper 32 bits of the frame (R83). -/
theorem State.frame0Value_getLsbD (s : State) (i : Nat) : s.frame0Value.getLsbD i = s.frameBits.getLsbD (i + 8) :=
  (append_byte_getLsbD_high s.frame0Value s.frame[4] i).symm

/-- FRAME1 holds the lower 8 bits of the frame (R83). -/
theorem State.frame1Value_getLsbD (s : State) (i : Nat) (hi : i < 8) : s.frame1Value.getLsbD i = s.frameBits.getLsbD i :=
  calc s.frame1Value.getLsbD i
    _ = s.frame[4].getLsbD i := append_byte_getLsbD_low 0#24 s.frame[4] i hi
    _ = s.frameBits.getLsbD i := (append_byte_getLsbD_low s.frame0Value s.frame[4] i hi).symm

/-- Settles O55: the frame's bits from the bytes they stand in, and the registers as the upper and the lower part of it. -/
theorem frameRegisterBitsAreSampleBits : Obligations.FrameRegisterBitsAreSampleBits := by
  intro s samples h hs
  have hbit : ∀ i (hi : i < 40),
      s.frameBits.getLsbD (39 - i) = decide (2 * samples[i + 1] > peakOf samples) := by
    intro i hi
    rw [show 39 - i = 7 - i % 8 + 8 * (4 - i / 8) by omega,
      s.frameBits_getLsbD_byte (i / 8) (7 - i % 8) (by omega) (by omega), hs, frameOf_getLsbD samples h i hi]
    rfl
  refine ⟨fun j => ?_, fun j => ?_, fun j => ?_⟩
  · rw [s.frame0Value_getLsbD, show 31 - j.val + 8 = 39 - j.val by omega, hbit j.val (by omega)]
  · rw [s.frame1Value_getLsbD _ (by omega), show 7 - j.val = 39 - (32 + j.val) by omega, hbit (32 + j.val) (by omega)]
    simp only [show 32 + j.val + 1 = 33 + j.val by omega]
  · rw [Nat.sub_add_eq, Nat.sub_right_comm]
    exact hbit j j.isLt

end Sys2Proof.Machine
end

section
/-! The encoding: the encoder and the decoder undo each other (R70, R75, R79), and R76's map selects the decoder's row. -/

namespace Sys2Proof

/-! ### From a transaction to its word and back -/

theorem Offset.isReservedSlot_iff (a : Offset) : Offset.isReservedSlot a = true ↔ a = 0x18#5 ∨ a = 0x1C#5 := by
  simp [Offset.isReservedSlot]

theorem isReservedVariant_iff (v : BitVec 2) : isReservedVariant v = true ↔ v = 0b10#2 ∨ v = 0b11#2 := by
  simp [isReservedVariant]

/-- The word of a CTRL write is decoded by its data alone (R75). -/
theorem decode_ofPorts_ctrl (d : Word) : decode (BusWord.ofPorts true 0x00#5 d) = decodeCtrlWrite d :=
  decode_ofPorts true 0x00#5 d

/-- Settles O3, row by row: a row with a fixed offset decodes by that offset, a CTRL write by its data, and the other rows by
what their operand check says of the operand. -/
theorem decodeOfEncodeIsTheTransaction : Obligations.DecodeOfEncodeIsTheTransaction := by
  intro i hwf
  cases i with
  | rdCtrl d | rdStatus d | rdFrame0 d | rdFrame1 d | rdDebug d | rdParam d
  | wrStatus d | wrFrame0 d | wrFrame1 d | wrDebug d | wrParam d => exact decode_ofPorts _ _ d
  | rdRsvd a d | wrRsvd a d =>
    obtain rfl | rfl := (Offset.isReservedSlot_iff a).mp hwf <;> exact decode_ofPorts _ _ d
  | wrCtrlCfg hi v | wrCtrlStartA hi | wrCtrlStartB hi =>
    rw [encode, decode_ofPorts_ctrl]
    simp [decodeCtrlWrite]
  | wrCtrlStartRsv hi v =>
    rw [encode, decode_ofPorts_ctrl]
    obtain rfl | rfl := (isReservedVariant_iff v).mp hwf <;> simp [decodeCtrlWrite]
  | misalignedA0 w a d =>
    have h0 : a.getLsbD 0 = true := (Offset.low_bit a).symm.trans hwf
    rw [encode, decode_ofPorts, decodePorts, if_pos h0]
  | misalignedA1 w a d =>
    obtain ⟨h1, h0⟩ : a.getLsbD 1 = true ∧ ¬a.getLsbD 0 = true := by
      simpa using (Offset.low_bits a).symm.trans hwf
    rw [encode, decode_ofPorts, decodePorts, if_neg h0, if_pos h1]

/-! ### From a word to its transaction and back -/

theorem encode_decodeCtrlWrite (d : Word) : encode (decodeCtrlWrite d) = BusWord.ofPorts true 0x00#5 d := by
  have hd := ctrlData_fields d
  unfold decodeCtrlWrite
  split_ifs with hs hA hB
  · rw [encode, ← hs, hd]
  · rw [encode, ← hA, ← Bool.eq_true_of_not_eq_false hs, hd]
  · rw [encode, ← hB, ← Bool.eq_true_of_not_eq_false hs, hd]
  · rw [encode, ← Bool.eq_true_of_not_eq_false hs, hd]

theorem encode_decodeRead (a : Offset) (d : Word) : encode (decodeRead a d) = BusWord.ofPorts false a d := by
  unfold decodeRead
  split_ifs <;> simp only [encode, *]

theorem encode_decodeWrite (a : Offset) (d : Word) : encode (decodeWrite a d) = BusWord.ofPorts true a d := by
  unfold decodeWrite
  split_ifs with hctrl
  · rw [encode_decodeCtrlWrite, hctrl]
  all_goals simp only [encode, *]

theorem encode_decodePorts (w : Bool) (a : Offset) (d : Word) : encode (decodePorts w a d) = BusWord.ofPorts w a d := by
  unfold decodePorts
  split_ifs with h0 h1 hw
  · rfl
  · rfl
  · rw [encode_decodeWrite, hw]
  · rw [encode_decodeRead, Bool.eq_false_of_not_eq_true hw]

theorem wf_decodeCtrlWrite (d : Word) : (decodeCtrlWrite d).wf = true := by
  unfold decodeCtrlWrite
  split_ifs with hs hA hB
  · rfl
  · rfl
  · rfl
  · have hv := variant_cases (ctrlVariant d)
    exact (isReservedVariant_iff _).mpr (by tauto)

/-- Of the aligned offsets, the decoder leaves the two reserved slots to its last branch (R55). -/
theorem wf_decodeRead (a : Offset) (d : Word) (h0 : a.getLsbD 0 = false) (h1 : a.getLsbD 1 = false) :
    (decodeRead a d).wf = true := by
  obtain rfl | rfl | rfl | rfl | rfl | rfl | rfl | rfl := Offset.aligned_cases a h0 h1 <;> rfl

theorem wf_decodeWrite (a : Offset) (d : Word) (h0 : a.getLsbD 0 = false) (h1 : a.getLsbD 1 = false) :
    (decodeWrite a d).wf = true := by
  obtain rfl | rfl | rfl | rfl | rfl | rfl | rfl | rfl := Offset.aligned_cases a h0 h1
  · exact wf_decodeCtrlWrite d
  all_goals rfl

theorem wf_decodePorts (w : Bool) (a : Offset) (d : Word) : (decodePorts w a d).wf = true := by
  unfold decodePorts
  split_ifs with h0 h1 hw
  · exact (Offset.low_bit a).trans h0
  · rw [Instr.wf, Offset.low_bits, h1, Bool.eq_false_of_not_eq_true h0]
    rfl
  · exact wf_decodeWrite a d (by simpa using h0) (by simpa using h1)
  · exact wf_decodeRead a d (by simpa using h0) (by simpa using h1)

/-- Settles O4, along the decoder: each of its branches keeps every field of the word. -/
theorem encodeOfDecodeIsTheWord : Obligations.EncodeOfDecodeIsTheWord := fun t =>
  ⟨wf_decodePorts t.w t.a t.d, (encode_decodePorts t.w t.a t.d).trans t.ofPorts_fields⟩

end Sys2Proof
end

section
/-! The row of a word in R76's map. A row looks at W and A, and at D[2:0] besides if it is a CTRL write's; the decoder does
too. So the words with D = 0, one for each W and A, and the 8 CTRL writes with D[31:3] = 0 stand for all words. -/

namespace Sys2Proof

open Machine

/-- A row is selected field by field. -/
theorem OpcodeRow.selects_ofPorts_iff (r : OpcodeRow) (w : Bool) (a : Offset) (d : Word) :
    r.selects (BusWord.ofPorts w a d) = true ↔
      (w && r.mask.w) = r.pattern.w ∧ a &&& r.mask.a = r.pattern.a ∧ d &&& r.mask.d = r.pattern.d := by
  rw [← BusWord.ofPorts_inj, ← BusWord.ofPorts_and, BusWord.ofPorts_fields, BusWord.ofPorts_fields]
  exact beq_iff_eq

/-- A row of the map looks at no bit of D, or it asks for W = 1 and A = 0x00. -/
theorem opcodeMap_data_or_ctrl : ∀ r ∈ opcodeMap,
    r.mask.d = 0#32 ∨ r.mask.w = true ∧ r.pattern.w = true ∧ r.mask.a = BitVec.allOnes 5 ∧ r.pattern.a = 0x00#5 := by
  decide

theorem OpcodeRow.selects_ignores_data (r : OpcodeRow) (hr : r ∈ opcodeMap) {w : Bool} {a : Offset}
    (hwa : w = false ∨ a ≠ 0x00#5) (d : Word) :
    r.selects (BusWord.ofPorts w a d) = r.selects (BusWord.ofPorts w a 0) := by
  rw [Bool.eq_iff_iff, r.selects_ofPorts_iff, r.selects_ofPorts_iff]
  obtain hd | ⟨hmw, hpw, hma, hpa⟩ := opcodeMap_data_or_ctrl r hr
  · simp only [hd, BitVec.and_zero]
  · have hout : ¬((w && true) = true ∧ a &&& BitVec.allOnes 5 = 0x00#5) := by
      rw [Bool.and_true, BitVec.and_allOnes]
      rintro ⟨hw, ha⟩
      exact hwa.elim (by simp [hw]) (absurd ha)
    rw [hmw, hpw, hma, hpa, ← and_assoc, ← and_assoc]
    exact iff_of_false (fun h => hout h.1) (fun h => hout h.1)

/-- The mnemonics of the rows that a word selects. -/
def selectedRows (t : BusWord) : List String := (opcodeMap.filter (fun r => r.selects t)).map (fun r => r.mnemonic)

theorem selectedRows_congr {t t' : BusWord} (h : ∀ r ∈ opcodeMap, r.selects t = r.selects t') :
    selectedRows t = selectedRows t' := by
  rw [selectedRows, selectedRows, List.filter_congr h]

theorem mnemonic_decodePorts_ignores_data {w : Bool} {a : Offset} (hwa : w = false ∨ a ≠ 0x00#5) (d : Word) :
    (decodePorts w a d).mnemonic = (decodePorts w a 0).mnemonic := by
  unfold decodePorts
  split_ifs with h0 h1 hw
  · rfl
  · rfl
  · have ha : a ≠ 0x00#5 := hwa.resolve_left (by simp [hw])
    unfold decodeWrite
    rw [if_neg ha, if_neg ha]
    split_ifs <;> rfl
  · unfold decodeRead
    split_ifs <;> rfl

theorem mnemonic_decodeCtrlWrite_ignores_high (hi : BitVec 29) (k : BitVec 2) (b : Bool) :
    (decodeCtrlWrite (ctrlData hi k b)).mnemonic = (decodeCtrlWrite (ctrlData 0 k b)).mnemonic := by
  simp only [decodeCtrlWrite, ctrlStart_ctrlData, ctrlVariant_ctrlData]
  split_ifs <;> rfl

theorem selectedRows_zero_data : ∀ (w : Bool) (a : BitVec 5), w = false ∨ a ≠ 0x00#5 →
    selectedRows (BusWord.ofPorts w a 0) = [(decodePorts w a 0).mnemonic] := by decide

theorem selectedRows_ctrlData_zero : ∀ (k : BitVec 2) (b : Bool),
    selectedRows (BusWord.ofPorts true 0x00#5 (ctrlData 0 k b)) = [(decodeCtrlWrite (ctrlData 0 k b)).mnemonic] := by decide

theorem selectedRows_ctrl (d : Word) : selectedRows (BusWord.ofPorts true 0x00#5 d) = [(decodeCtrlWrite d).mnemonic] := by
  rw [← ctrlData_fields d, mnemonic_decodeCtrlWrite_ignores_high, ← selectedRows_ctrlData_zero]
  exact selectedRows_congr fun r hr => r.selects_ignores_high hr ..

theorem selectedRows_ofPorts {w : Bool} {a : Offset} (hwa : w = false ∨ a ≠ 0x00#5) (d : Word) :
    selectedRows (BusWord.ofPorts w a d) = [(decodePorts w a d).mnemonic] := by
  rw [mnemonic_decodePorts_ignores_data hwa, ← selectedRows_zero_data w a hwa]
  exact selectedRows_congr fun r hr => r.selects_ignores_data hr hwa d

/-- Every word selects the decoder's row and no other (R75). -/
theorem selectedRows_eq (t : BusWord) : selectedRows t = [(decode t).mnemonic] := by
  cases hc : isCtrlWrite t with
  | true =>
    obtain ⟨hw, ha⟩ : t.w = true ∧ t.a = 0x00#5 := by simpa [isCtrlWrite] using hc
    rw [decode_ctrl_write t hc, ← selectedRows_ctrl, ← hw, ← ha, t.ofPorts_fields]
  | false =>
    rw [decode, ← selectedRows_ofPorts ((isCtrlWrite_eq_false_iff t).mp hc), t.ofPorts_fields]

/-- What `AlignmentOfRow` says of each instruction, of all of them. -/
theorem alignmentOfRow : ∀ i : Instr, Laws.AlignmentOfRow.Statement i
  | .rdCtrl d => Laws.AlignmentOfRow.rdCtrl d
  | .rdStatus d => Laws.AlignmentOfRow.rdStatus d
  | .rdFrame0 d => Laws.AlignmentOfRow.rdFrame0 d
  | .rdFrame1 d => Laws.AlignmentOfRow.rdFrame1 d
  | .rdDebug d => Laws.AlignmentOfRow.rdDebug d
  | .rdParam d => Laws.AlignmentOfRow.rdParam d
  | .rdRsvd a d => Laws.AlignmentOfRow.rdRsvd a d
  | .wrCtrlCfg hi v => Laws.AlignmentOfRow.wrCtrlCfg hi v
  | .wrCtrlStartA hi => Laws.AlignmentOfRow.wrCtrlStartA hi
  | .wrCtrlStartB hi => Laws.AlignmentOfRow.wrCtrlStartB hi
  | .wrCtrlStartRsv hi v => Laws.AlignmentOfRow.wrCtrlStartRsv hi v
  | .wrStatus d => Laws.AlignmentOfRow.wrStatus d
  | .wrFrame0 d => Laws.AlignmentOfRow.wrFrame0 d
  | .wrFrame1 d => Laws.AlignmentOfRow.wrFrame1 d
  | .wrDebug d => Laws.AlignmentOfRow.wrDebug d
  | .wrParam d => Laws.AlignmentOfRow.wrParam d
  | .wrRsvd a d => Laws.AlignmentOfRow.wrRsvd a d
  | .misalignedA0 w a d => Laws.AlignmentOfRow.misalignedA0 w a d
  | .misalignedA1 w a d => Laws.AlignmentOfRow.misalignedA1 w a d

/-- Settles O5: the row by the words that stand for all, the alignment as that of the decoded transaction. -/
theorem everyWordSelectsExactlyItsRow : Obligations.EveryWordSelectsExactlyItsRow := by
  intro t
  obtain ⟨hwf, henc⟩ := encodeOfDecodeIsTheWord t
  have halign := alignmentOfRow (decode t) hwf
  rw [henc] at halign
  exact ⟨selectedRows_eq t, halign⟩

end Sys2Proof
end

section
/-! Which part of a word a read looks at (R72), and the words and codes that the spec writes out. -/

namespace Sys2Proof.Machine

/-- A misaligned word answers the bus error whatever D is, an aligned read the register (R113, R59). -/
theorem exec_decodePorts_read (a : Offset) (d d' : Word) (s : State) :
    exec (decodePorts false a d) s = exec (decodePorts false a d') s := by
  simp only [decodePorts, Bool.false_eq_true, if_false]
  split_ifs
  · rfl
  · rfl
  · rw [exec_decodeRead, exec_decodeRead]

/-- Settles O6: with W = 0 and A given, D is the one field that is left. -/
theorem readsIgnoreWriteData : Obligations.ReadsIgnoreWriteData := by
  intro t t' s hw hw' ha
  rw [decode, decode, hw, hw', ha]
  exact exec_decodePorts_read t'.a t.d t'.d s

/-- Settles O2: fixed words, decoded by computation. -/
theorem specWordsDecodeAsWritten : Obligations.SpecWordsDecodeAsWritten := by
  unfold Obligations.SpecWordsDecodeAsWritten
  decide

/-- Settles O7: fixed tables, read off the definitions. -/
theorem statusCodesAreTheTables : Obligations.StatusCodesAreTheTables := by
  unfold Obligations.StatusCodesAreTheTables
  decide

end Sys2Proof.Machine
end

section
/-! What an aligned read answers, field by field (R100, R104 to R106), and that PARAM stays what it is (R6, R40). -/

namespace Sys2Proof.Machine

/-- The fields of a word that is laid out as CTRL is (R35). -/
theorem ctrlLayout_fields (k : BitVec 2) :
    (0#29 ++ k ++ 0#1).extractLsb' 0 1 = 0#1 ∧ (0#29 ++ k ++ 0#1).extractLsb' 1 2 = k ∧
    (0#29 ++ k ++ 0#1).extractLsb' 3 29 = 0#29 := by
  simp (discharger := decide) only [field_append_low, field_append_high, field_whole, Nat.reduceSub, and_self]

/-- The fields of a word that is laid out as DEBUG is (R39). -/
theorem debugLayout_fields (c : Byte) (p : Sample) :
    (0#8 ++ c ++ p).extractLsb' 0 16 = p ∧ (0#8 ++ c ++ p).extractLsb' 16 8 = c ∧
    (0#8 ++ c ++ p).extractLsb' 24 8 = 0#8 := by
  simp (discharger := decide) only [field_append_low, field_append_high, field_whole, Nat.reduceSub, and_self]

/-- The fields of a word that is laid out as PARAM is (R40). -/
theorem paramLayout_fields (c : BitVec 5) (f m : Byte) :
    (0#11 ++ c ++ f ++ m).extractLsb' 0 8 = m ∧ (0#11 ++ c ++ f ++ m).extractLsb' 8 8 = f ∧
    (0#11 ++ c ++ f ++ m).extractLsb' 16 5 = c ∧ (0#11 ++ c ++ f ++ m).extractLsb' 21 11 = 0#11 := by
  simp (discharger := decide) only [field_append_low, field_append_high, field_whole, Nat.reduceSub, and_self]

/-- Settles O9: a read answers CTRL, and VARIANT lies whole in it, with 0 around it. -/
theorem readCtrlAnswersVariant : Obligations.ReadCtrlAnswersVariant := by
  intro d s
  exact ⟨decodeOfEncodeIsTheTransaction (.rdCtrl d) rfl, s.ctrlValue, rfl, ctrlLayout_fields s.variant⟩

/-- No edge, a reset edge neither, writes a parameter (R6). -/
theorem step_params {s t : State} (hstep : step s = .next t) : t.params = s.params := by
  cases step_effect hstep with
  | capture => exact tickRule_params s.sample s
  | _ => rfl

/-- PARAM is a function of the parameters alone (R40). -/
theorem State.paramValue_congr {s t : State} (h : t.params = s.params) : t.paramValue = s.paramValue := by
  simp only [State.paramValue, h]

/-- Settles O12: each read answers its register, whose fields lie whole in it, and no edge writes what PARAM shows. -/
theorem readDebugParamReservedAnswer : Obligations.ReadDebugParamReservedAnswer := by
  intro d s
  obtain ⟨hmax, hframe, hwidth, hzero⟩ := paramLayout_fields (BitVec.ofNat 5 s.params.countWidth) 41#8 100#8
  refine ⟨decodeOfEncodeIsTheTransaction (.rdDebug d) rfl, decodeOfEncodeIsTheTransaction (.rdParam d) rfl,
    ⟨s.debugValue, rfl, debugLayout_fields s.csum s.peak⟩, ⟨s.paramValue, rfl, ?_, ?_, ?_, hzero⟩,
    fun a ha => ⟨?_, rfl⟩, fun t hstep => ⟨step_params hstep, State.paramValue_congr (step_params hstep)⟩⟩
  · exact congrArg BitVec.toNat hmax
  · exact congrArg BitVec.toNat hframe
  · exact (congrArg BitVec.toNat hwidth).trans (BitVec.toNat_ofNat ..)
  · exact decodeOfEncodeIsTheTransaction (.rdRsvd a d) ((Offset.isReservedSlot_iff a).mpr ha)

end Sys2Proof.Machine
end

section
/-! What a write does (R107 to R112): a CTRL write by BUSY of the pre-edge state, any other write nothing. -/

namespace Sys2Proof.Machine

/-- While a capture runs, a CTRL write takes its busy branch (R110). -/
theorem State.ite_busy_of_busy {s : State} (hf : s.fsm ≠ .idle) (u v : State) : (if s.busy then u else v) = u :=
  if_pos (s.busy_eq_true_iff.mpr hf)

/-- While the block is idle, a CTRL write takes its idle branch (R107 to R109). -/
theorem State.ite_busy_of_idle {s : State} (hf : s.fsm = .idle) (u v : State) : (if s.busy then u else v) = v :=
  if_neg (by simp [s.busy_eq_false_iff.mpr hf])

/-- What a CTRL write leaves of a running capture: all but START_IGNORED (R110). -/
theorem State.ctrlWriteBusy_eq (s : State) (b : Bool) :
    s.ctrlWriteBusy b = { s with startIgnored := b || s.startIgnored } := by
  cases b <;> rfl

/-- Every CTRL write while a capture runs, by its START bit (R110). -/
theorem exec_decodeCtrlWrite_busy (d : Word) {s : State} (hf : s.fsm ≠ .idle) :
    exec (decodeCtrlWrite d) s = .next ((s.ctrlWriteBusy (ctrlStart d)).respond 0 false) := by
  unfold decodeCtrlWrite
  split_ifs with hs hA hB
  · rw [exec, execWrCtrlCfg, State.ite_busy_of_busy hf, hs]
  · rw [exec, execWrCtrlStartA, State.ite_busy_of_busy hf, Bool.eq_true_of_not_eq_false hs]
  · rw [exec, execWrCtrlStartB, State.ite_busy_of_busy hf, Bool.eq_true_of_not_eq_false hs]
  · rw [exec, execWrCtrlStartRsv, State.ite_busy_of_busy hf, Bool.eq_true_of_not_eq_false hs]

/-- Settles O17: the word decodes by its data, and each of the four rows takes its busy branch. -/
theorem ctrlWriteWhileBusyOnlyNotesAStart : Obligations.CtrlWriteWhileBusyOnlyNotesAStart := by
  intro t s hf hw ha
  have hc : isCtrlWrite t = true := by simp [isCtrlWrite, hw, ha]
  rw [decode_ctrl_write t hc, exec_decodeCtrlWrite_busy t.d hf, State.ctrlWriteBusy_eq]
  rfl

/-- Settles O14: the two branches of the row. -/
theorem configWriteStoresVariantWhenIdle : Obligations.ConfigWriteStoresVariantWhenIdle := by
  intro hi k s
  refine ⟨decodeOfEncodeIsTheTransaction (.wrCtrlCfg hi k) rfl, fun hf => ?_, fun hf => ?_⟩
  · rw [exec, execWrCtrlCfg, State.ite_busy_of_idle hf]
    rfl
  · rw [exec, execWrCtrlCfg, State.ite_busy_of_busy hf]
    rfl

/-- The data of a start command, with VARIANT and START as one field (R73). -/
theorem ctrlData_true (hi : BitVec 29) (k : BitVec 2) : ctrlData hi k true = hi ++ (k ++ 1#1) :=
  BitVec.append_assoc ..

/-- Settles O15: both supported starts are accepted by the same operation. -/
theorem supportedStartIsAcceptedWhenIdle : Obligations.SupportedStartIsAcceptedWhenIdle := by
  intro hi s hf
  have hA : decode (BusWord.ofPorts true 0x00 (ctrlData hi 0b00 true)) = .wrCtrlStartA hi :=
    decodeOfEncodeIsTheTransaction (.wrCtrlStartA hi) rfl
  have hB : decode (BusWord.ofPorts true 0x00 (ctrlData hi 0b01 true)) = .wrCtrlStartB hi :=
    decodeOfEncodeIsTheTransaction (.wrCtrlStartB hi) rfl
  rw [ctrlData_true] at hA hB
  refine ⟨hA, hB, ?_, ?_⟩
  · rw [exec, execWrCtrlStartA, State.ite_busy_of_idle hf]
    rfl
  · rw [exec, execWrCtrlStartB, State.ite_busy_of_idle hf]
    rfl

/-- Settles O16: a reserved code makes the start's row, whose idle branch rejects it. -/
theorem reservedStartIsRejectedWhenIdle : Obligations.ReservedStartIsRejectedWhenIdle := by
  intro hi k s hf hk
  refine ⟨decodeOfEncodeIsTheTransaction (.wrCtrlStartRsv hi k) ((isReservedVariant_iff k).mpr hk), ?_⟩
  rw [exec, execWrCtrlStartRsv, State.ite_busy_of_idle hf]
  rfl

/-- Settles O18: each of these rows ignores the write, and each word decodes to its row. -/
theorem otherWritesAreIgnored : Obligations.OtherWritesAreIgnored := by
  intro d s
  constructor
  · intro i hi
    simp only [List.mem_cons, List.not_mem_nil, or_false] at hi
    rcases hi with rfl | rfl | rfl | rfl | rfl | rfl | rfl <;> rfl
  · simp only [List.map_cons, List.map_nil, decode_ofPorts]
    rfl

end Sys2Proof.Machine
end

section
/-! Misaligned transactions (R113). -/

namespace Sys2Proof.Machine

/-- The decoder looks at A[1:0] before W and D (R75). -/
theorem decode_misaligned {t : BusWord} (ha : t.a.extractLsb' 0 2 ≠ 0) :
    decode t = .misalignedA0 t.w t.a t.d ∨ decode t = .misalignedA1 t.w t.a t.d := by
  rw [decode, decodePorts]
  split_ifs with h0 h1
  · exact .inl rfl
  · exact .inr rfl
  · exact absurd ((Offset.aligned_iff t.a).mpr ⟨by simpa using h0, by simpa using h1⟩) ha
  · exact absurd ((Offset.aligned_iff t.a).mpr ⟨by simpa using h0, by simpa using h1⟩) ha

/-- Settles O19: both rows answer the bus error, whatever their operands are. -/
theorem misalignedAccessIsABusErrorOnly : Obligations.MisalignedAccessIsABusErrorOnly := by
  refine ⟨fun t s ha => ⟨decode_misaligned ha, ?_⟩, fun w a d s => ⟨fun _ => rfl, fun _ => rfl⟩⟩
  obtain h | h := decode_misaligned ha <;> rw [h] <;> rfl

end Sys2Proof.Machine
end

section
/-! One edge put together (R114, R115): the transaction, and then the tick rule, which do not meet. -/

namespace Sys2Proof.Machine

/-- The block's own part of an edge, with BUSY as its rule writes it (R32, R115). -/
theorem blockStep_eq_ite (pre u : State) :
    blockStep pre u = if pre.fsm ≠ .idle then tickRule pre.sample u else u := by
  simp only [blockStep, pre.busy_eq_true_iff]

/-- Settles O20: the block's own part comes after the transaction, and the word presented is the next tick's. -/
theorem stepRunsTheDecodedTransaction : Obligations.StepRunsTheDecodedTransaction := by
  refine ⟨fun s t w hr hi ht => ?_, fun s w => ⟨rfl, ?_⟩⟩
  · rw [step_of_exec hr hi ht, blockStep_eq_ite]
  · show some (BitVec.ofNat 38 w.toNat) = some w
    rw [BitVec.ofNat_toNat, BitVec.setWidth_eq]

/-- IDLE does not step (R130). -/
theorem tickRule_of_idle (l : Bool) {s : State} (hf : s.fsm = .idle) : tickRule l s = s := by
  simp only [tickRule, hf]

/-- Where the bus leaves the sequencer as it is, the block's own part is the tick rule, in IDLE too. -/
theorem blockStep_eq_tickRule {pre u : State} (hf : u.fsm = pre.fsm) : blockStep pre u = tickRule pre.sample u := by
  rw [blockStep_eq_ite]
  split_ifs with hbusy
  · rfl
  · rw [tickRule_of_idle _ (hf.trans (not_not.mp hbusy))]

/-- Settles O21: what such a tick writes besides, the tick rule neither reads nor writes. -/
theorem tickWithoutTransactionOnlySteps : Obligations.TickWithoutTransactionOnlySteps := by
  intro s hr hi
  have haround : s.consume.noTransaction = s.around s.startIgnored 0 false s.pending.tail (s.tick + 1) := rfl
  have hblock : blockStep s s.consume.noTransaction =
      (tickRule s.sample s).around s.startIgnored 0 false s.pending.tail (s.tick + 1) := by
    rw [haround, blockStep_eq_tickRule (State.around_fsm ..), tickRule_around]
  refine ⟨_, step_of_no_bus hr hi, by simp, by simp, ?_⟩
  rw [hblock, ← tickRule_startIgnored s.sample s]
  rfl

/-- While a capture runs, a transaction touches START_IGNORED and the bus outputs alone (R110, R115). -/
theorem exec_busy_around {i : Instr} {s t : State} (hf : s.fsm ≠ .idle) (ht : exec i s = .next t) :
    t = s.around t.startIgnored t.busRdata t.busErr s.pending s.tick := by
  obtain ⟨b, v, e, hx⟩ := exec_busy i s (s.busy_eq_true_iff.mpr hf)
  obtain rfl : _ = t := by simpa [hx] using ht
  rw [State.ctrlWriteBusy_eq]
  rfl

/-- Settles O22: the tick rule passes over what the transaction touches. -/
theorem transactionAndTickNeverMeet : Obligations.TransactionAndTickNeverMeet := by
  intro i s t l hf ht
  have haround := exec_busy_around hf ht
  refine ⟨haround, ?_, tickRule_startIgnored l s⟩
  calc tickRule l t
      = tickRule l (s.around t.startIgnored t.busRdata t.busErr s.pending s.tick) := by rw [← haround]
    _ = (tickRule l s).around t.startIgnored t.busRdata t.busErr (tickRule l s).pending (tickRule l s).tick := by
      rw [tickRule_around, tickRule_pending, tickRule_tick]

end Sys2Proof.Machine
end

section
/-! What leaves IDLE (R130). -/

namespace Sys2Proof.Machine

/-- An accepted start is the row of its variant (R75). -/
theorem decode_supported_start {w : BusWord} (hs : isStart w = true)
    (hk : ctrlVariant w.d = 0b00#2 ∨ ctrlVariant w.d = 0b01#2) :
    decode w = .wrCtrlStartA (ctrlIgnored w.d) ∨ decode w = .wrCtrlStartB (ctrlIgnored w.d) := by
  obtain ⟨hc, hst⟩ : isCtrlWrite w = true ∧ ctrlStart w.d = true := by simpa [isStart] using hs
  rw [decode_ctrl_write w hc, decodeCtrlWrite]
  rcases hk with hk | hk <;> simp [hst, hk]

/-- Settles O32: of the effects an edge can have, only an accepted start leaves IDLE, and only an answer needs no CTRL write. -/
theorem onlyASupportedStartLeavesIdle : Obligations.OnlyASupportedStartLeavesIdle := by
  intro s t hf hstep
  cases step_effect hstep with
  | reset hr => simp [hr]
  | capture v e hr hb => exact absurd hf (s.busy_eq_true_iff.mp hb)
  | quiet => exact ⟨fun hne => absurd hf hne, fun _ _ => rfl⟩
  | config v e w hr hb hw hc | reject v e w hr hb hw hc =>
    exact ⟨fun hne => absurd hf hne, fun _ hno => by simp [hno w hw] at hc⟩
  | accept v e w hr hb hw hc hs hk =>
    exact ⟨fun _ => ⟨hr, w, _, hw, decode_supported_start hs hk⟩, fun _ hno => by simp [hno w hw] at hc⟩

end Sys2Proof.Machine
end

section
/-! A sequencer state at its ticks (R130 to R139): without a detected edge it counts, until its bound, which ends it. -/

namespace Sys2Proof.Machine

/-- The sample is an edge of the line for a sequencer state that reads it (R139). -/
def Fsm.detectsEdge (f : Fsm) (line : Bool) : Bool := f.risingEdge line || f.fallingEdge line

theorem Fsm.detectsEdge_eq_false_iff (f : Fsm) (line : Bool) :
    f.detectsEdge line = false ↔ f.risingEdge line = false ∧ f.fallingEdge line = false := Bool.or_eq_false_iff

theorem Fsm.detectsEdge_of_not_readsLine {f : Fsm} (h : f.readsLine = false) (line : Bool) : f.detectsEdge line = false := by
  cases f with
  | ackLow | ackHigh | capLow | capHigh => simp [Fsm.readsLine] at h
  | idle | wakeHigh | startLow | release | decode => rfl

/-- How a sequencer state ends whose count reaches its bound (R131 to R138). -/
def State.timeUp (s : State) : State :=
  match s.fsm with
  | .idle => s
  | .wakeHigh => s.goto .startLow 0
  | .startLow => s.goto .release 0
  | .release => s.goto .ackLow 0
  | .ackLow => s.finish .timeoutAckLow
  | .ackHigh => s.finish .timeoutAckHigh
  | .capLow | .capHigh => s.goto .decode 0
  | .decode => s.commit (decodeSamples s.samples)

/-- A state's end does not depend on the count with which it is reached. -/
theorem State.timeUp_goto_self {s : State} (hf : s.fsm ≠ .idle) (c : Nat) : (s.goto s.fsm c).timeUp = s.timeUp := by
  cases hg : s.fsm with
  | idle => exact absurd hg hf
  | _ => simp only [State.timeUp, State.goto_fsm, hg]; rfl

/-- A tick that detects no edge counts, or ends the state at its bound. -/
theorem TickEnds.eq_of_no_edge {s t : State} {l : Bool} (ht : TickEnds s l t) (hf : s.fsm ≠ .idle)
    (hl : s.fsm.detectsEdge l = false) :
    t = if s.cnt + 1 = s.fsm.cntLimit s.params s.variant then s.timeUp else s.count := by
  cases ht with
  | idle hg => exact absurd hg hf
  | ackFall hg | ackRise hg | capRise hg | recordLast hg | recordMore hg => rw [hg] at hl; exact absurd hl (by decide)
  | wakeDone hg hc | startDone hg hc | releaseDone hg hc | ackLowTimeout hg hc | ackHighTimeout hg hc | capLowEnd hg hc
  | capHighEnd hg hc | decodeDone hg hc => simp [State.timeUp, Fsm.cntLimit, hg, hc]
  | wakeCount hg hc | startCount hg hc | releaseCount hg hc | ackLowCount hg hc | ackHighCount hg hc | capLowCount hg hc
  | capHighCount hg hc | decodeCount hg hc => simp [Fsm.cntLimit, hg, hc]

theorem tickRule_of_no_edge {l : Bool} {s : State} (hf : s.fsm ≠ .idle) (hl : s.fsm.detectsEdge l = false) :
    tickRule l s = if s.cnt + 1 = s.fsm.cntLimit s.params s.variant then s.timeUp else s.count :=
  (tickRule_ends l s).eq_of_no_edge hf hl

/-- A tick without an edge, of a phase that has counted to below its bound. -/
theorem tickRule_goto_counts {f : Fsm} {l : Bool} (s : State) {c : Nat} (hbusy : f ≠ .idle) (hl : f.detectsEdge l = false)
    (hc : c + 1 < f.cntLimit s.params s.variant) : tickRule l (s.goto f c) = s.goto f (c + 1) := by
  rw [tickRule_of_no_edge (s := s.goto f c) hbusy hl]
  exact if_neg hc.ne

/-- A tick without an edge, of a phase that has counted to its bound. -/
theorem tickRule_goto_ends {s : State} {f : Fsm} {c : Nat} {l : Bool} (hf : s.fsm = f) (hbusy : f ≠ .idle)
    (hl : f.detectsEdge l = false) (hc : c + 1 = f.cntLimit s.params s.variant) : tickRule l (s.goto f c) = s.timeUp := by
  subst hf
  rw [tickRule_of_no_edge (s := s.goto s.fsm c) hbusy hl, State.timeUp_goto_self hbusy]
  exact if_pos hc

/-- A rising edge begins a pulse (R135, R136). -/
theorem tickRule_of_rise {s : State} (hf : s.fsm = .ackHigh ∨ s.fsm = .capLow) : tickRule true s = s.goto .capHigh 1 := by
  rcases hf with hf | hf <;> simp [tickRule, tickAckHigh, tickCapLow, hf]

/-- The falling edge of ACK_LOW is the acknowledgement (R134). -/
theorem tickRule_of_ack {s : State} (hf : s.fsm = .ackLow) : tickRule false s = s.goto .ackHigh 1 := by
  simp [tickRule, tickAckLow, hf]

/-- The falling edge of CAP_HIGH records the pulse (R137). -/
theorem tickRule_of_record {s : State} (hf : s.fsm = .capHigh) :
    tickRule false s = if s.n.toNat + 1 = 100 then s.record.goto .decode 0 else s.record.goto .capLow 1 := by
  simp [tickRule, tickCapHigh, hf, Config.maxTimings]

/-- A rising edge is detected while a response is awaited or low, and is a high sample. -/
theorem Fsm.risingEdge_iff (f : Fsm) (line : Bool) :
    f.risingEdge line = true ↔ (f = .ackHigh ∨ f = .capLow) ∧ line = true := by
  simp [Fsm.risingEdge]

/-- A falling edge is detected while the line is high before or within a response, and is a low sample. -/
theorem Fsm.fallingEdge_iff (f : Fsm) (line : Bool) :
    f.fallingEdge line = true ↔ (f = .ackLow ∨ f = .capHigh) ∧ line = false := by
  simp [Fsm.fallingEdge]

/-- A state that ends at its bound records nothing, and no phase of the line begins. -/
theorem State.timeUp_frame (s : State) (hf : s.fsm ≠ .idle) :
    s.timeUp.n = s.n ∧ s.timeUp.buf = s.buf ∧
    s.timeUp.fsm ≠ .ackHigh ∧ s.timeUp.fsm ≠ .capLow ∧ s.timeUp.fsm ≠ .capHigh := by
  cases hg : s.fsm with
  | idle => exact absurd hg hf
  | _ => simp [State.timeUp, hg]

/-- Settles O49: the tick rule at a rising edge, at each falling edge, and without an edge. -/
theorem phasesBeginAtDetectedEdges : Obligations.PhasesBeginAtDetectedEdges := by
  intro s t hr hstep
  cases step_effect hstep with
  | reset hr' => simp [hr] at hr'
  | quiet _ _ _ hb | config _ _ _ _ hb | accept _ _ _ _ hb | reject _ _ _ _ hb =>
    simp [s.busy_eq_false_iff.mp hb, Fsm.risingEdge, Fsm.fallingEdge]
  | capture v e =>
    simp only [State.around_fsm, State.around_cnt, State.around_n, State.around_buf]
    refine ⟨fun hrise => ?_, fun hfall => ?_, fun hf hrise hfall => ?_⟩
    · obtain ⟨hf, hl⟩ := (s.fsm.risingEdge_iff _).mp hrise
      rw [hl, tickRule_of_rise hf]
      exact ⟨rfl, rfl⟩
    · obtain ⟨hf | hf, hl⟩ := (s.fsm.fallingEdge_iff _).mp hfall <;> rw [hl]
      · rw [tickRule_of_ack hf]
        exact .inl ⟨hf, rfl, rfl⟩
      · rw [tickRule_of_record hf]
        split_ifs with hn
        · exact .inr ⟨hf, rfl, .inr ⟨rfl, hn⟩⟩
        · exact .inr ⟨hf, rfl, .inl ⟨rfl, rfl⟩⟩
    · rw [tickRule_of_no_edge hf ((s.fsm.detectsEdge_eq_false_iff _).mpr ⟨hrise, hfall⟩)]
      split_ifs
      · obtain ⟨hn, hbuf, hphase⟩ := s.timeUp_frame hf
        exact ⟨hn, hbuf, fun _ => hphase⟩
      · exact ⟨rfl, rfl, fun hne => absurd rfl hne⟩

end Sys2Proof.Machine
end

section
/-! A sequencer state over the ticks of a run: how long it lasts, and how it ends, whatever the host does (R131 to R138). -/

namespace Sys2Proof.Machine

/-- `t` is `u` but for what the bus and the step itself write while a capture runs. -/
def State.AgreesWith (t u : State) : Prop := ∃ b v e p k, t = u.around b v e p k

theorem State.AgreesWith.refl (s : State) : s.AgreesWith s :=
  ⟨s.startIgnored, s.busRdata, s.busErr, s.pending, s.tick, rfl⟩

/-- One more tick of a capture is the tick rule on the state it agrees with. -/
theorem State.AgreesWith.next {s u : State} {j : Nat} (h : (s.run j).AgreesWith u) (hu : u.fsm ≠ .idle)
    (hr : (s.inputAt j).rst = false) : (s.run (j + 1)).AgreesWith (tickRule (s.sampleAt j) u) := by
  obtain ⟨b, v, e, p, k, hrun⟩ := h
  obtain ⟨b', v', e', p', k', hnext⟩ := s.run_capture j hr (by rw [hrun]; exact hu)
  exact ⟨b', v', e', p', k', by rw [hnext, hrun, tickRule_around]; rfl⟩

/-- A run without a reset is one over fewer ticks too. -/
theorem State.NoReset.mono {s : State} {j k : Nat} (h : s.NoReset k) (hjk : j ≤ k) : s.NoReset j :=
  fun i hi => h i (by omega)

/-- The inputs after `j` ticks are those `j` ticks away. -/
theorem State.run_inputAt (s : State) (j i : Nat) : (s.run j).inputAt i = s.inputAt (j + i) := by
  rw [← State.run_input, ← State.run_add, State.run_input]

/-- The line samples after `j` ticks are those `j` ticks away. -/
theorem State.run_sampleAt (s : State) (j i : Nat) : (s.run j).sampleAt i = s.sampleAt (j + i) := by
  rw [← State.run_sample, ← State.run_add, State.run_sample]

/-- The later part of a run without a reset. -/
theorem State.NoReset.run {s : State} {j k : Nat} (h : s.NoReset (j + k)) : (s.run j).NoReset k :=
  fun i hi => by rw [State.run_inputAt]; exact h (j + i) (by omega)

section

variable {s : State} {f : Fsm} {c k m : Nat} (hf : s.fsm = f) (hbusy : f ≠ .idle) (hc : s.cnt = c) (hr : s.NoReset k)
  (hl : ∀ j < k, f.detectsEdge (s.sampleAt j) = false) (hm : c + k = m)

include hf hbusy hc hr hl hm

/-- As long as no edge is detected and the bound is not reached, a phase counts. -/
theorem State.run_counts (hk : m < f.cntLimit s.params s.variant) : (s.run k).AgreesWith (s.goto f m) := by
  subst hm
  induction k with
  | zero => subst hf hc; exact .refl s
  | succ k ih =>
    have hcount := ih (hr.mono (by omega)) (fun j hj => hl j (by omega)) (by omega)
    have hnext := hcount.next hbusy (hr k (by omega))
    rwa [tickRule_goto_counts s (c := c + k) hbusy (hl k (by omega)) hk] at hnext

/-- A phase without an edge ends when its count reaches the bound. -/
theorem State.run_ends_phase (hk : m = f.cntLimit s.params s.variant) (hpos : 1 ≤ k) : (s.run k).AgreesWith s.timeUp := by
  obtain ⟨i, rfl⟩ : ∃ i, k = i + 1 := ⟨k - 1, by omega⟩
  have hcount : (s.run i).AgreesWith (s.goto f (c + i)) :=
    State.run_counts hf hbusy hc (hr.mono (by omega)) (fun j hj => hl j (by omega)) rfl (by omega)
  have hnext := hcount.next hbusy (hr i (by omega))
  rwa [tickRule_goto_ends hf hbusy (hl i (by omega)) (by omega)] at hnext

end

/-- A phase that has read `k` samples of the level it waits at, and its next tick. -/
theorem State.run_wait {s : State} {f : Fsm} {c k m : Nat} {level : Bool} (hf : s.fsm = f) (hbusy : f ≠ .idle)
    (hc : s.cnt = c) (hlevel : f.detectsEdge level = false) (hr : s.NoReset (k + 1)) (hl : ∀ j < k, s.sampleAt j = level)
    (hm : c + k = m) (hk : m < f.cntLimit s.params s.variant) :
    (s.run k).AgreesWith (s.goto f m) ∧ (s.run (k + 1)).AgreesWith (tickRule (s.sampleAt k) (s.goto f m)) := by
  have hcount :=
    State.run_counts hf hbusy hc (hr.mono (Nat.le_succ k)) (fun j hj => by rw [hl j hj, hlevel]) hm hk
  exact ⟨hcount, hcount.next hbusy (hr k (Nat.lt_succ_self k))⟩

/-- Settles O44: a count of high samples, and then the falling edge or the bound. -/
theorem ackLowTakesALowOrTimesOut : Obligations.AckLowTakesALowOrTimesOut := by
  intro s k hf hc hk hr hl
  obtain ⟨⟨_, _, _, _, _, hcount⟩, hnext⟩ := State.run_wait hf (by decide) hc rfl hr hl (Nat.zero_add k) hk
  refine ⟨by simp [hcount], fun hlow => ?_, fun hhigh hend => ?_⟩
  · rw [hlow, tickRule_of_ack rfl] at hnext
    obtain ⟨_, _, _, _, _, hrun⟩ := hnext
    simp [hrun]
  · rw [hhigh, tickRule_goto_ends hf (by decide) rfl hend] at hnext
    obtain ⟨_, _, _, _, _, hrun⟩ := hnext
    simp [hrun, State.timeUp, hf]

/-- Settles O45: a count of low samples, and then the rising edge or the bound. -/
theorem ackHighTakesAHighOrTimesOut : Obligations.AckHighTakesAHighOrTimesOut := by
  intro s k hf hc hk hr hl
  obtain ⟨⟨_, _, _, _, _, hcount⟩, hnext⟩ := State.run_wait hf (by decide) hc rfl hr hl (Nat.add_comm 1 k) hk
  refine ⟨by simp [hcount], fun hhigh => ?_, fun hlow hend => ?_⟩
  · rw [hhigh, tickRule_of_rise (.inl rfl)] at hnext
    obtain ⟨_, _, _, _, _, hrun⟩ := hnext
    simp [hrun]
  · rw [hlow, tickRule_goto_ends hf (by decide) rfl hend] at hnext
    obtain ⟨_, _, _, _, _, hrun⟩ := hnext
    simp [hrun, State.timeUp, hf]

/-- Settles O46: a count of low samples, and then the rising edge or the bound; no sample is recorded either way. -/
theorem capLowTakesAHighOrEndsTheFrame : Obligations.CapLowTakesAHighOrEndsTheFrame := by
  intro s k hf hc hk hr hl
  obtain ⟨⟨_, _, _, _, _, hcount⟩, hnext⟩ := State.run_wait hf (by decide) hc rfl hr hl (Nat.add_comm 1 k) hk
  refine ⟨by simp [hcount], fun hhigh => ?_, fun hlow hend => ?_, ?_⟩
  · rw [hhigh, tickRule_of_rise (.inr rfl)] at hnext
    obtain ⟨_, _, _, _, _, hrun⟩ := hnext
    simp [hrun]
  · rw [hlow, tickRule_goto_ends hf (by decide) rfl hend] at hnext
    obtain ⟨_, _, _, _, _, hrun⟩ := hnext
    simp [hrun, State.timeUp, hf]
  · obtain ⟨_, _, _, _, _, hrun⟩ := hnext
    simp [hrun, tickRule_n, tickRule_buf]

/-- Settles O47: a count of high samples, and then the falling edge, which records the count, or the bound. -/
theorem highPhaseIsRecordedAsItsWidth : Obligations.HighPhaseIsRecordedAsItsWidth := by
  intro s h hwf hf hc hn hpos hh hr hl
  obtain ⟨k, rfl⟩ : ∃ k, h = k + 1 := ⟨h - 1, by omega⟩
  rw [Nat.add_sub_cancel] at hl ⊢
  obtain ⟨-, hnext⟩ := State.run_wait hf (by decide) hc rfl hr hl (Nat.add_comm 1 k) hh
  refine ⟨fun hlow => ?_, fun hhigh hend => ?_⟩
  · obtain ⟨-, -, -, -, -, -, -, -, hfits, -, hwidth, -⟩ := hwf
    have hsample : (toSample s.params (k + 1)).toNat = k + 1 := toSample_toNat _ _ (by omega) hwidth
    have hsamples : (s.goto .capHigh (k + 1)).record.samples = s.samples ++ [k + 1] := by
      rw [State.record_samples (s.goto .capHigh (k + 1)) hn, State.goto_params, State.goto_cnt, hsample]
      rfl
    rw [hlow, tickRule_of_record rfl] at hnext
    obtain ⟨_, _, _, _, _, hrun⟩ := hnext
    rw [hrun, State.goto_n]
    split_ifs
    · exact ⟨rfl, hsamples, rfl, rfl⟩
    · exact ⟨rfl, hsamples, rfl, rfl⟩
  · rw [hhigh, tickRule_goto_ends hf (by decide) rfl hend] at hnext
    obtain ⟨_, _, _, _, _, hrun⟩ := hnext
    simp [hrun, State.timeUp, hf]

/-- Settles O48: DECODE reads no sample, so it counts to its bound, which commits. -/
theorem decodeCommitsAfterItsLatency : Obligations.DecodeCommitsAfterItsLatency := by
  intro s j hf hc hpos hr
  have hl : ∀ i < j, Fsm.decode.detectsEdge (s.sampleAt i) = false := fun _ _ => rfl
  refine ⟨fun hj => ?_, fun hj => ?_⟩
  · obtain ⟨_, _, _, _, _, hrun⟩ := State.run_counts hf (by decide) hc hr hl (Nat.zero_add j) hj
    simp [hrun]
  · obtain ⟨_, _, _, _, _, hrun⟩ := State.run_ends_phase hf (by decide) hc hr hl (Nat.zero_add j) hj (hj ▸ hpos)
    simp [hrun, State.timeUp, hf]

/-- A drive phase lasts as long as its bound says, whatever the line does, and the next one begins (R131 to R133). -/
theorem State.run_drive {s : State} {f g : Fsm} {j : Nat} (hf : s.fsm = f) (hline : f.readsLine = false)
    (hbusy : f ≠ .idle) (hend : s.timeUp = s.goto g 0) (hp : s.params.Wf) (hc : s.cnt = 0) (hr : s.NoReset j) :
    (j < f.cntLimit s.params s.variant → (s.run j).fsm = f) ∧
    (f.cntLimit s.params s.variant ≤ j → ∃ (i : Nat) (t : State),
      j = f.cntLimit s.params s.variant + i ∧ s.run j = t.run i ∧ t.NoReset i ∧
      t.fsm = g ∧ t.cnt = 0 ∧ t.params = s.params ∧ t.variant = s.variant) := by
  have hl : ∀ k, f.detectsEdge (s.sampleAt k) = false := fun k => Fsm.detectsEdge_of_not_readsLine hline _
  have hpos : 1 ≤ f.cntLimit s.params s.variant := Nat.one_le_of_lt (f.cntFirst_lt_cntLimit s.variant hp)
  refine ⟨fun hj => ?_, fun hj => ?_⟩
  · obtain ⟨_, _, _, _, _, hrun⟩ := State.run_counts hf hbusy hc hr (fun k _ => hl k) (Nat.zero_add j) hj
    simp [hrun]
  · obtain ⟨i, rfl⟩ := Nat.exists_eq_add_of_le hj
    obtain ⟨_, _, _, _, _, hrun⟩ :=
      State.run_ends_phase hf hbusy hc (hr.mono hj) (fun k _ => hl k) (Nat.zero_add _) rfl hpos
    rw [hend] at hrun
    exact ⟨i, _, rfl, s.run_add _ i, hr.run, by simp [hrun], by simp [hrun], by simp, by simp [hrun]⟩

/-- Settles O43: three drive phases one after the other. -/
theorem drivePhasesLastExactly : Obligations.DrivePhasesLastExactly := by
  intro s j start hp hf hc hr hstart
  obtain rfl : start = s.params.tStart s.variant := by
    rcases hstart with ⟨hk, rfl⟩ | ⟨hk, rfl⟩ <;> simp [Params.tStart, hk]
  obtain ⟨hwake, hwakeEnd⟩ :=
    State.run_drive (g := .startLow) hf rfl (by decide) (by simp [State.timeUp, hf]) hp hc hr
  simp only [Fsm.cntLimit] at hwake hwakeEnd
  rcases Nat.lt_or_ge j s.params.tWakeHigh with hj | hj
  · exact ⟨hwake, by omega, by omega, by omega⟩
  obtain ⟨j, t, rfl, hrun, hr, hf, hc, hpt, hkt⟩ := hwakeEnd hj
  obtain ⟨hstartLow, hstartEnd⟩ :=
    State.run_drive (g := .release) hf rfl (by decide) (by simp [State.timeUp, hf]) (hpt ▸ hp) hc hr
  simp only [Fsm.cntLimit, hpt, hkt] at hstartLow hstartEnd
  rcases Nat.lt_or_ge j (s.params.tStart s.variant) with hj | hj
  · exact ⟨by omega, fun _ _ => hrun ▸ hstartLow hj, by omega, by omega⟩
  obtain ⟨j, u, rfl, hrun', hr, hf, hc, hpu, hku⟩ := hstartEnd hj
  rw [hrun'] at hrun
  obtain ⟨hrelease, hreleaseEnd⟩ :=
    State.run_drive (g := .ackLow) hf rfl (by decide) (by simp [State.timeUp, hf]) (hpu ▸ hp) hc hr
  simp only [Fsm.cntLimit, hpu] at hrelease hreleaseEnd
  rcases Nat.lt_or_ge j s.params.tRelease with hj | hj
  · exact ⟨by omega, by omega, fun _ _ => hrun ▸ hrelease hj, by omega⟩
  obtain ⟨j, v, rfl, hrun', -, hf, hc, -⟩ := hreleaseEnd hj
  rw [hrun'] at hrun
  refine ⟨by omega, by omega, by omega, fun hj => ?_⟩
  obtain rfl : j = 0 := by omega
  exact hrun ▸ ⟨hf, hc⟩

end Sys2Proof.Machine
end

section
/-! Every capture ends within its bound (R144): the ticks that can still follow, counted down by every tick. -/

namespace Sys2Proof.Machine

/-- The most ticks a capture can still take once it leaves a sequencer state with `n` samples recorded. -/
def Fsm.ticksAfter (p : Params) (variant : BitVec 2) (n : Nat) : Fsm → Nat
  | .idle | .decode => 0
  | .capHigh => 2 * (99 - n) * (p.waitBound - 1) + p.decodeLatency
  | .capLow => (2 * (99 - n) + 1) * (p.waitBound - 1) + p.decodeLatency
  | .ackHigh => 199 * (p.waitBound - 1) + p.decodeLatency
  | .ackLow => (p.ackBound - 1) + 199 * (p.waitBound - 1) + p.decodeLatency
  | .release => (2 * p.ackBound - 1) + 199 * (p.waitBound - 1) + p.decodeLatency
  | .startLow => p.tRelease + (2 * p.ackBound - 1) + 199 * (p.waitBound - 1) + p.decodeLatency
  | .wakeHigh => p.tStart variant + p.tRelease + (2 * p.ackBound - 1) + 199 * (p.waitBound - 1) + p.decodeLatency

/-- The most ticks a capture can still take: the rest of its sequencer state, and what can follow it. -/
def State.ticksLeft (s : State) : Nat :=
  s.fsm.cntLimit s.params s.variant - s.cnt + s.fsm.ticksAfter s.params s.variant s.n.toNat

theorem State.ticksLeft_pos {s : State} (h : s.CntInRange) : 0 < s.ticksLeft := by
  obtain ⟨-, hlt⟩ := s.cntInRange_iff.mp h
  unfold State.ticksLeft
  omega

/-- An accepted start has the whole bound before it. -/
theorem State.acceptStart_ticksLeft (s : State) (k : BitVec 2) : (s.acceptStart k).ticksLeft = captureBound s.params k := by
  simp only [State.ticksLeft, captureBound, Fsm.cntLimit, Fsm.ticksAfter, State.acceptStart_fsm, State.acceptStart_cnt,
    State.acceptStart_params, State.acceptStart_variant]
  omega

/-- A capture that goes on has fewer ticks left. -/
theorem TickEnds.ticksLeft_lt {s t : State} {l : Bool} (ht : TickEnds s l t) (h : s.Inv) (hbusy : t.fsm ≠ .idle) :
    t.ticksLeft < s.ticksLeft := by
  obtain ⟨hlo, hlt⟩ := s.cntInRange_iff.mp h.cnt
  obtain ⟨-, -, -, -, -, -, hAck, hWait, -⟩ := h.params
  cases ht with
  | idle hg => exact absurd hg hbusy
  | ackLowTimeout | ackHighTimeout | decodeDone => exact absurd rfl hbusy
  | wakeCount | startCount | releaseCount | ackLowCount | ackHighCount | capLowCount | capHighCount | decodeCount =>
    simp only [State.ticksLeft, State.count_fsm, State.count_cnt, State.count_params, State.count_variant, State.count_n]
    omega
  | ackRise hg =>
    have hn : s.n.toNat = 0 := by rw [h.fresh (by rw [hg]; rfl)]; rfl
    simp only [State.ticksLeft, Fsm.cntLimit, Fsm.ticksAfter, State.goto_fsm, State.goto_cnt, State.goto_n,
      State.goto_params, hg, hn] at hlt ⊢
    omega
  | capRise hg =>
    simp only [State.ticksLeft, Fsm.cntLimit, Fsm.ticksAfter, State.goto_fsm, State.goto_cnt, State.goto_n,
      State.goto_params, hg, Nat.succ_mul] at hlt ⊢
    omega
  | recordMore hg hn =>
    have hroom := h.capturing (.inr hg)
    have hphases : 2 * (99 - s.n.toNat) = 2 * (99 - (s.n.toNat + 1)) + 1 + 1 := by omega
    simp only [State.ticksLeft, Fsm.cntLimit, Fsm.ticksAfter, State.goto_fsm, State.goto_cnt, State.goto_n,
      State.goto_params, State.record_params, s.record_n_toNat hroom, hg, hphases, Nat.succ_mul] at hlt ⊢
    omega
  | wakeDone hg | startDone hg | releaseDone hg | ackFall hg | capLowEnd hg | recordLast hg | capHighEnd hg =>
    simp only [State.ticksLeft, Fsm.cntLimit, Fsm.ticksAfter, State.goto_fsm, State.goto_cnt, State.goto_params,
      State.goto_variant, State.record_params, hg] at hlt ⊢
    omega

/-- A running capture ends with a result before its ticks run out, whatever the line and the host do. -/
theorem State.run_ends {s : State} {m : Nat} (h : s.Inv) (hf : s.fsm ≠ .idle) (hm : s.ticksLeft ≤ m) (hr : s.NoReset m) :
    ∃ e < m, (∀ j ≤ e, (s.run j).fsm ≠ .idle) ∧ (s.run (e + 1)).fsm = .idle ∧ (s.run (e + 1)).result ≠ .none := by
  induction m generalizing s with
  | zero => exact absurd (State.ticksLeft_pos h.cnt) (by omega)
  | succ m ih =>
    obtain ⟨b, v, e, hstep⟩ := step_busy s hr.head (s.busy_eq_true_iff.mpr hf)
    have hends := tickRule_ends s.sample s
    have hinv := everyStepKeepsTheInvariant s _ h hstep
    have hrun := fun k => s.run_succ _ k hstep
    by_cases hidle : (tickRule s.sample s).fsm = .idle
    · refine ⟨0, by omega, fun j hj => ?_, ?_⟩
      · rwa [Nat.le_zero.mp hj]
      · rw [hrun 0]
        exact ⟨hidle, hends.result_ne_none hf hidle⟩
    · have hlt := hends.ticksLeft_lt h hidle
      obtain ⟨e', he', hbusy, hlast⟩ := ih hinv hidle (Nat.le_of_lt_succ (lt_of_lt_of_le hlt hm)) (hr.tail rfl)
      refine ⟨e' + 1, by omega, fun j hj => ?_, by rwa [hrun (e' + 1)]⟩
      cases j with
      | zero => exact hf
      | succ j => rw [hrun j]; exact hbusy j (by omega)

/-- The edge of an accepted start, which runs no tick rule (R108, R115). -/
theorem step_of_supported_start {s : State} {w : BusWord} {hi : BitVec 29} {k : BitVec 2} (hf : s.fsm = .idle)
    (hr : s.input.rst = false) (hw : s.input.bus = some w)
    (hstart : decode w = .wrCtrlStartA hi ∧ k = 0b00 ∨ decode w = .wrCtrlStartB hi ∧ k = 0b01) :
    step s = .next ((s.consume.acceptStart k).respond 0 false) := by
  have hexec : exec (decode w) s.consume = .next ((s.consume.acceptStart k).respond 0 false) := by
    have hidle : s.consume.busy = false := s.busy_eq_false_iff.mpr hf
    rcases hstart with ⟨hd, rfl⟩ | ⟨hd, rfl⟩ <;> simp [hd, exec, execWrCtrlStartA, execWrCtrlStartB, hidle]
  rw [step_of_exec hr hw hexec, blockStep_eq_ite, if_neg (not_not.mpr hf)]

/-- Settles O51: the start leaves the whole bound, and every tick of the capture takes one from it. -/
theorem everyCaptureEndsWithinTheBound : Obligations.EveryCaptureEndsWithinTheBound := by
  intro s w hi k h hf hw hstart hr
  rw [Nat.add_comm] at hr
  have hstep := step_of_supported_start hf hr.head hw hstart
  have hrun := fun j => s.run_succ _ j hstep
  obtain ⟨e, he, hbusy, hlast⟩ := State.run_ends (everyStepKeepsTheInvariant s _ h hstep) (by simp)
    (s.consume.acceptStart_ticksLeft k).le (hr.tail rfl)
  refine ⟨e + 1, by omega, he, fun j hj hje => ?_, by rwa [hrun (e + 1)]⟩
  obtain ⟨i, rfl⟩ := Nat.exists_eq_add_of_le' hj
  rw [hrun i]
  exact hbusy i (by omega)

end Sys2Proof.Machine
end

section
/-! A whole response (R140 to R143): pulse by pulse along the line's levels, and then the end of the frame and the commit. -/

namespace Sys2Proof.Machine

/-- The level of the line at a tick of a row of pulses, after which it stays high. -/
def waveLevel (pulses : List (Nat × Nat)) (j : Nat) : Bool := (wave pulses)[j]?.getD true

theorem wave_cons (p : Nat × Nat) (ps : List (Nat × Nat)) :
    wave (p :: ps) = List.replicate p.1 true ++ (List.replicate p.2 false ++ wave ps) := by
  simp [wave]

theorem wave_cons_length (p : Nat × Nat) (ps : List (Nat × Nat)) :
    (wave (p :: ps)).length = p.1 + p.2 + (wave ps).length := by
  simp [wave_cons, Nat.add_assoc]

theorem waveLevel_high (p : Nat × Nat) (ps : List (Nat × Nat)) {j : Nat} (hj : j < p.1) :
    waveLevel (p :: ps) j = true := by
  simp [waveLevel, wave_cons, List.getElem?_append, hj]

theorem waveLevel_low (p : Nat × Nat) (ps : List (Nat × Nat)) {j : Nat} (hlo : p.1 ≤ j) (hhi : j < p.1 + p.2) :
    waveLevel (p :: ps) j = false := by
  have hj : j - p.1 < p.2 := by omega
  simp [waveLevel, wave_cons, List.getElem?_append, hlo.not_gt, hj]

theorem waveLevel_rest (p : Nat × Nat) (ps : List (Nat × Nat)) (j : Nat) :
    waveLevel (p :: ps) (p.1 + p.2 + j) = waveLevel ps j := by
  rw [waveLevel, wave_cons, Nat.add_assoc, List.getElem?_append_right (by simp), List.getElem?_append_right (by simp)]
  simp [waveLevel]

theorem waveLevel_zero {pulses : List (Nat × Nat)} (h : ∀ p ∈ pulses, 1 ≤ p.1) : waveLevel pulses 0 = true := by
  cases pulses with
  | nil => rfl
  | cons p ps => exact waveLevel_high p ps (h p List.mem_cons_self)

theorem waveLevel_of_length_le {pulses : List (Nat × Nat)} {j : Nat} (hj : (wave pulses).length ≤ j) :
    waveLevel pulses j = true := by
  simp [waveLevel, List.getElem?_eq_none hj]

/-- `t` has recorded the widths `row` since `s`, and has just read the first sample of a pulse. -/
structure State.RecordedFrom (s t : State) (row : List Nat) : Prop where
  fsm : t.fsm = .capHigh
  cnt : t.cnt = 1
  params : t.params = s.params
  n : t.n.toNat = s.n.toNat + row.length
  samples : t.samples = s.samples ++ row

theorem State.RecordedFrom.trans {s t u : State} {row row' : List Nat} (h : s.RecordedFrom t row)
    (h' : t.RecordedFrom u row') : s.RecordedFrom u (row ++ row') where
  fsm := h'.fsm
  cnt := h'.cnt
  params := h'.params.trans h.params
  n := by rw [h'.n, h.n, List.length_append, Nat.add_assoc]
  samples := by rw [h'.samples, h.samples, List.append_assoc]

/-- One pulse, up to the first sample of the next (R136, R137). -/
theorem State.run_pulse {s : State} {h l : Nat} (hp : s.params.Wf) (hf : s.fsm = .capHigh) (hc : s.cnt = 1)
    (hn : s.n.toNat < 99) (hh : 1 ≤ h ∧ h < s.params.waitBound) (hl : 1 ≤ l ∧ l < s.params.waitBound)
    (hr : s.NoReset (h + l)) (hhigh : ∀ j < h - 1, s.sampleAt j = true)
    (hlow : ∀ j < l, s.sampleAt (h - 1 + j) = false) (hrise : s.sampleAt (h - 1 + l) = true) :
    s.RecordedFrom (s.run (h + l)) [h] := by
  obtain ⟨hrecord, -⟩ := highPhaseIsRecordedAsItsWidth s h hp hf hc (by omega) hh.1 hh.2 (hr.mono (by omega)) hhigh
  obtain ⟨hn', hsamples, hphase⟩ := hrecord (hlow 0 hl.1)
  rw [if_neg (by omega)] at hphase
  obtain ⟨k, rfl⟩ := Nat.exists_eq_add_of_le' hl.1
  obtain ⟨-, hnext, -, hnu, hbufu⟩ := capLowTakesAHighOrEndsTheFrame (s.run h) k hphase.1 hphase.2 (by simpa using hl.2)
    hr.run (fun j hj => by rw [State.run_sampleAt, show h + j = h - 1 + (j + 1) by omega]; exact hlow _ (by omega))
  obtain ⟨hf', hc'⟩ := hnext (by rw [State.run_sampleAt, show h + k = h - 1 + (k + 1) by omega]; exact hrise)
  rw [State.run_add]
  refine ⟨hf', hc', by simp, ?_, ?_⟩
  · rw [hnu, hn']
    exact s.record_n_toNat (by omega)
  · rw [State.samples_congr _ _ hnu hbufu, hsamples]

/-- A row of pulses, up to the first sample of the high line after it (R140, R142). -/
theorem State.run_pulses {s : State} {pulses : List (Nat × Nat)} (hp : s.params.Wf) (hf : s.fsm = .capHigh) (hc : s.cnt = 1)
    (hn : s.n.toNat + pulses.length ≤ 99)
    (hpulses : ∀ p ∈ pulses, 1 ≤ p.1 ∧ p.1 < s.params.waitBound ∧ 1 ≤ p.2 ∧ p.2 < s.params.waitBound)
    (hr : s.NoReset (wave pulses).length) (hl : ∀ j < (wave pulses).length, s.sampleAt j = waveLevel pulses (j + 1)) :
    s.RecordedFrom (s.run (wave pulses).length) (pulses.map Prod.fst) := by
  induction pulses generalizing s with
  | nil => exact ⟨hf, hc, rfl, rfl, by simp [wave]⟩
  | cons p ps ih =>
    rw [wave_cons_length] at hr hl ⊢
    rw [List.length_cons] at hn
    obtain ⟨hh, hhW, hlo, hloW⟩ := hpulses p List.mem_cons_self
    have hps := fun q hq => hpulses q (List.mem_cons_of_mem p hq)
    have hlater : ∀ j < (wave ps).length + 1, s.sampleAt (p.1 + p.2 - 1 + j) = waveLevel ps j := fun j hj => by
      rw [hl _ (by omega), ← waveLevel_rest p ps j]
      congr 1
      omega
    have hpulse : s.RecordedFrom (s.run (p.1 + p.2)) [p.1] :=
      State.run_pulse hp hf hc (by omega) ⟨hh, hhW⟩ ⟨hlo, hloW⟩ (hr.mono (by omega))
      (fun j hj => by rw [hl j (by omega)]; exact waveLevel_high p ps (by omega))
      (fun j hj => by rw [hl _ (by omega)]; exact waveLevel_low p ps (by omega) (by omega))
      (by
        rw [← waveLevel_zero (fun q hq => (hps q hq).1), ← hlater 0 (by omega)]
        congr 1
        omega)
    rw [State.run_add]
    refine hpulse.trans (ih (by simpa using hp) hpulse.fsm hpulse.cnt ?_ (by simpa using hps) hr.run fun j hj => ?_)
    · rw [hpulse.n, List.length_singleton]
      omega
    · rw [State.run_sampleAt, ← hlater (j + 1) (by omega)]
      congr 1
      omega

/-- The peak stays below any bound that the samples stay below. -/
theorem peakOf_lt {samples : List Nat} {m : Nat} (hm : 0 < m) (h : ∀ d ∈ samples, d < m) : peakOf samples < m := by
  rcases foldl_max_mem (samples.drop 1) 0 with hzero | hmem
  · rwa [peakOf, hzero]
  · exact h _ (List.mem_of_mem_drop hmem)

/-- The samples of a capture that has recorded none. -/
theorem State.samples_of_n_eq_zero {s : State} (hn : s.n = 0) : s.samples = [] := by
  simp [State.samples, hn]

/-- From the first sample of a pulse that does not end, the capture ends at the bound and commits (R138, R141 (b)). -/
theorem State.run_high_line {s : State} (hp : s.params.Wf) (hf : s.fsm = .capHigh) (hc : s.cnt = 1) (hn : s.n.toNat < 100)
    (hr : s.NoReset (s.params.waitBound - 1 + s.params.decodeLatency))
    (hhigh : ∀ j < s.params.waitBound - 1, s.sampleAt j = true) :
    let t := s.run (s.params.waitBound - 1 + s.params.decodeLatency)
    t.fsm = .idle ∧ t.n = s.n ∧ t.result = (decodeSamples s.samples).result ∧
    t.frame = (decodeSamples s.samples).frame ∧ t.peak = BitVec.ofNat 16 (decodeSamples s.samples).peak ∧
    t.csum = (decodeSamples s.samples).csum := by
  have hWait : 1 < s.params.waitBound := Fsm.cntFirst_lt_cntLimit .capHigh s.variant hp
  have hLatency : 0 < s.params.decodeLatency := Fsm.cntFirst_lt_cntLimit .decode s.variant hp
  obtain ⟨-, hend⟩ := highPhaseIsRecordedAsItsWidth s (s.params.waitBound - 1) hp hf hc hn (by omega) (by omega)
    (hr.mono (by omega)) (fun j hj => hhigh j (by omega))
  obtain ⟨hf', hc', hn', hbuf'⟩ := hend (hhigh _ (by omega)) (by omega)
  obtain ⟨-, hcommit⟩ := decodeCommitsAfterItsLatency (s.run (s.params.waitBound - 1)) s.params.decodeLatency hf' hc'
    (by rw [State.run_params]; exact hLatency) hr.run
  rw [State.run_add, ← State.samples_congr _ _ hn' hbuf']
  obtain ⟨hidle, -, hn'', -, hregs⟩ := hcommit (by simp)
  exact ⟨hidle, hn''.trans hn', hregs⟩

/-- Settles O50: the row of pulses, and then a line that stays high. -/
theorem responseCommitsTheDecodeOfItsPulses : Obligations.ResponseCommitsTheDecodeOfItsPulses := by
  intro s pulses ticks h hf hc hn hne hlen hpulses hticks hr hl
  have hp := h.params
  obtain ⟨-, -, -, -, -, -, -, hWait, hfits, -, hwidth, -⟩ := h.params
  have hlevel : ∀ j < ticks, s.sampleAt j = waveLevel pulses (j + 1) := fun j hj => by
    rw [hl j hj, waveLevel, List.getElem?_drop, Nat.add_comm 1 j]
  have hwave : 1 ≤ (wave pulses).length := by
    obtain ⟨p, ps, rfl⟩ := List.exists_cons_of_ne_nil hne
    have hpos := (hpulses p List.mem_cons_self).1
    rw [wave_cons_length]
    omega
  obtain rfl : ticks = (wave pulses).length + (s.params.waitBound - 1 + s.params.decodeLatency) := by omega
  have hrow := State.run_pulses hp hf hc (by simpa [hn] using hlen) hpulses (hr.mono (by omega))
    (fun j hj => hlevel j (by omega))
  have hn' : (s.run (wave pulses).length).n.toNat = pulses.length := by simpa [hn] using hrow.n
  have hsamples : (s.run (wave pulses).length).samples = pulses.map Prod.fst := by
    rw [hrow.samples, State.samples_of_n_eq_zero hn, List.nil_append]
  have hend := State.run_high_line (hrow.params ▸ hp) hrow.fsm hrow.cnt (by omega) (by rw [hrow.params]; exact hr.run)
    (fun j hj => by
      rw [hrow.params] at hj
      rw [State.run_sampleAt, hlevel _ (by omega), waveLevel_of_length_le (by omega)])
  rw [hrow.params, ← State.run_add, hsamples] at hend
  obtain ⟨hidle, hnEnd, hresult, hframe, hpeak, hcsum⟩ := hend
  have hpeakBound : peakOf (pulses.map Prod.fst) < 2 ^ 16 := by
    have hpow : 2 ^ s.params.countWidth ≤ 2 ^ 16 := Nat.pow_le_pow_right (by decide) hwidth
    refine peakOf_lt (by decide) fun d hd => ?_
    obtain ⟨p, hmem, rfl⟩ := List.mem_map.mp hd
    obtain ⟨-, hlt, -⟩ := hpulses p hmem
    omega
  refine ⟨hidle, by rw [hnEnd, hn'], hresult, hframe, ?_, hcsum⟩
  rw [hpeak, BitVec.toNat_ofNat]
  exact Nat.mod_eq_of_lt hpeakBound

end Sys2Proof.Machine
end

section
/-! The peak and the bit of a sample (R161, R162). -/

namespace Sys2Proof.Machine

theorem le_peakOf {samples : List Nat} {d : Nat} (hd : d ∈ samples.drop 1) : d ≤ peakOf samples :=
  (le_foldl_max (samples.drop 1) 0).2 d hd

/-- Where there is a data sample, the peak is one of them (R161). -/
theorem peakOf_mem {samples : List Nat} (h : 2 ≤ samples.length) : peakOf samples ∈ samples.drop 1 := by
  rcases foldl_max_mem (samples.drop 1) 0 with hzero | hmem
  · obtain ⟨d, hd⟩ : ∃ d, d ∈ samples.drop 1 := List.exists_mem_of_length_pos (by rw [List.length_drop]; omega)
    have hle : d ≤ 0 := hzero ▸ le_peakOf hd
    have hpeak : peakOf samples = d := hzero.trans (Nat.le_zero.mp hle).symm
    exact hpeak ▸ hd
  · exact hmem

theorem peakOf_of_length_le_one {samples : List Nat} (h : samples.length ≤ 1) : peakOf samples = 0 := by
  rw [peakOf, List.drop_eq_nil_of_le h, List.foldl_nil]

/-- Settles O52: the peak bounds the data samples and is one of them. -/
theorem peakIsTheLargestDataSample : Obligations.PeakIsTheLargestDataSample :=
  fun _ => ⟨fun _ => le_peakOf, peakOf_mem, peakOf_of_length_le_one⟩

theorem bitOf_iff (peak d : Nat) : bitOf peak d = true ↔ peak < 2 * d := decide_eq_true_iff

/-- A sample of the peak's width is a 1, since samples are at least 1 (R162). -/
theorem bitOf_peak {peak : Nat} (h : 1 ≤ peak) : bitOf peak peak = true := by
  rw [bitOf_iff]
  omega

/-- Settles O53: over the naturals, `2*d > peak` is the sign of the integer difference. -/
theorem thresholdIsExact : Obligations.ThresholdIsExact := by
  refine fun peak d => ⟨?_, fun htie => ?_, bitOf_peak⟩
  · rw [bitOf_iff]
    omega
  · rw [← Bool.not_eq_true, bitOf_iff]
    omega

end Sys2Proof.Machine
end

section
/-! The number a frame byte holds (R53, R163). -/

namespace Sys2Proof.Machine

theorem bitsValue_concat (bits : List Bool) (b : Bool) : bitsValue (bits ++ [b]) = 2 * bitsValue bits + b.toNat := by
  rw [bitsValue, List.foldl_concat, bitsValue]

theorem bitsValue_lt (bits : List Bool) : bitsValue bits < 2 ^ bits.length := by
  induction bits using List.reverseRecOn with
  | nil => decide
  | append_singleton bs b ih =>
    have hb := b.toNat_lt
    rw [bitsValue_concat, List.length_append, List.length_singleton, Nat.pow_succ]
    omega

/-- One step of the reconstructor doubles the byte and adds the bit, modulo 256 (R163). -/
theorem shiftBit_toNat (v : Byte) (b : Bool) :
    ((v <<< 1) ||| BitVec.setWidth 8 (BitVec.ofBool b)).toNat = (2 * v.toNat + b.toNat) % 256 := by
  revert v
  cases b <;> decide

/-- Bits shifted into a byte that was 0 make their number, modulo 256 (R163). -/
theorem appendBits_zero_toNat (bits : List Bool) : (appendBits 0 bits).toNat = bitsValue bits % 256 := by
  induction bits using List.reverseRecOn with
  | nil => rfl
  | append_singleton bs b ih =>
    rw [appendBits_concat, shiftBit_toNat, ih, bitsValue_concat]
    omega

/-- Settles O54: a byte takes at most eight bits, so their number is not cut. -/
theorem frameByteIsTheValueOfItsBits : Obligations.FrameByteIsTheValueOfItsBits := by
  intro samples k
  have hlt : bitsValue (((frameBitsOf samples).drop (8 * k)).take 8) < 256 :=
    (bitsValue_lt _).trans_le (Nat.pow_le_pow_right (by decide) (List.length_take_le 8 _))
  calc (frameOf samples)[k].toNat
    _ = (appendBits 0 (((frameBitsOf samples).drop (8 * k)).take 8)).toNat :=
      congrArg BitVec.toNat (frameOf_getElem samples k k.isLt)
    _ = bitsValue (((frameBitsOf samples).drop (8 * k)).take 8) := by
      rw [appendBits_zero_toNat, Nat.mod_eq_of_lt hlt]

end Sys2Proof.Machine
end

section
/-! The result of a decode (R165 to R168), and what samples beyond the frame do (R164). -/

namespace Sys2Proof.Machine

theorem checksumOf_toNat (f : Vector Byte 5) :
    (checksumOf f).toNat = (f[0].toNat + f[1].toNat + f[2].toNat + f[3].toNat) % 256 := by
  simp only [checksumOf, BitVec.toNat_add]
  omega

theorem selectResult_malformed_iff : ∀ lengthOk checksumOk : Bool,
    selectResult lengthOk checksumOk = .malformed ↔ ¬lengthOk = true := by decide

theorem selectResult_checksum_iff : ∀ lengthOk checksumOk : Bool,
    selectResult lengthOk checksumOk = .checksum ↔ lengthOk = true ∧ ¬checksumOk = true := by decide

theorem selectResult_ok_iff : ∀ lengthOk checksumOk : Bool,
    selectResult lengthOk checksumOk = .ok ↔ lengthOk = true ∧ checksumOk = true := by decide

theorem decodeSamples_malformed_iff (samples : List Nat) :
    (decodeSamples samples).result = .malformed ↔ samples.length ≠ 41 := by
  rw [ne_eq, ← lengthOk_iff]
  exact selectResult_malformed_iff _ _

theorem decodeSamples_checksum_iff (samples : List Nat) :
    (decodeSamples samples).result = .checksum ↔
      samples.length = 41 ∧ (frameOf samples)[4] ≠ checksumOf (frameOf samples) := by
  rw [ne_eq, ← lengthOk_iff, ← checksumOk_iff]
  exact selectResult_checksum_iff _ _

theorem decodeSamples_ok_iff (samples : List Nat) :
    (decodeSamples samples).result = .ok ↔
      samples.length = 41 ∧ (frameOf samples)[4] = checksumOf (frameOf samples) := by
  rw [← lengthOk_iff, ← checksumOk_iff]
  exact selectResult_ok_iff _ _

/-- Settles O56: the three results, with the checksum compared as a number. -/
theorem decodeResultFollowsLengthThenChecksum : Obligations.DecodeResultFollowsLengthThenChecksum := by
  intro samples d sum
  have hsum : (checksumOf (frameOf samples)).toNat = sum := checksumOf_toNat _
  have hbyte : (frameOf samples)[4] = checksumOf (frameOf samples) ↔ d.frame[4].toNat = sum := by
    rw [← hsum, BitVec.toNat_inj]
    rfl
  exact ⟨hsum, decodeSamples_malformed_iff samples, (decodeSamples_checksum_iff samples).trans (by rw [ne_eq, hbyte]),
    (decodeSamples_ok_iff samples).trans (by rw [hbyte])⟩

/-- Further samples that do not exceed the peak leave it as it is (R161). -/
theorem peakOf_append {samples extra : List Nat} (h : 1 ≤ samples.length) (hle : ∀ d ∈ extra, d ≤ peakOf samples) :
    peakOf (samples ++ extra) = peakOf samples := by
  have hsplit : peakOf (samples ++ extra) = extra.foldl max (peakOf samples) := by
    rw [peakOf, List.drop_append_of_le_length h, List.foldl_append, peakOf]
  rcases foldl_max_mem extra (peakOf samples) with hsame | hmem
  · exact hsplit.trans hsame
  · exact hsplit.trans (le_antisymm (hle _ hmem) (le_foldl_max extra _).1)

/-- Only the first 41 samples give bits, so past them the peak is all that could change the frame (R164). -/
theorem frameOf_append {samples extra : List Nat} (h : samples.length = 41)
    (hpeak : peakOf (samples ++ extra) = peakOf samples) : frameOf (samples ++ extra) = frameOf samples := by
  have hdata : ((samples ++ extra).drop 1).take Config.frameBits = (samples.drop 1).take Config.frameBits := by
    rw [List.drop_append_of_le_length (by omega), List.take_append_of_le_length (by simp [h])]
  rw [frameOf, frameBitsOf, hdata, hpeak, ← frameBitsOf, ← frameOf]

/-- Settles O57: the peak stays, so the frame stays; the length alone fails. -/
theorem samplesBeyondTheFrameReachNoByte : Obligations.SamplesBeyondTheFrameReachNoByte := by
  intro samples extra h hne hle
  have hpeak := peakOf_append (by omega) hle
  have hframe := frameOf_append h hpeak
  have hpos := List.length_pos_of_ne_nil hne
  exact ⟨hframe, hpeak, congrArg checksumOf hframe,
    (decodeSamples_malformed_iff _).mpr (by rw [List.length_append]; omega)⟩

end Sys2Proof.Machine
end

section
/-! Which frames a complete row can give (R172), and that a commit depends on the samples alone (R160, R170). -/

namespace Sys2Proof.Machine

/-- The bit of the peak's own sample is 1, so its byte is not 0 (R172). -/
theorem frameOf_ne_zero {samples : List Nat} (h : samples.length = 41) (hpeak : 1 ≤ peakOf samples) :
    frameOf samples ≠ Vector.replicate 5 0 := by
  intro hzero
  obtain ⟨i, hi, hat⟩ := List.getElem_of_mem (peakOf_mem (samples := samples) (by omega))
  have hsample : samples[i + 1]'(by rw [List.length_drop] at hi; omega) = peakOf samples := by
    simpa [Nat.add_comm 1 i] using hat
  have hbit := frameOf_getLsbD samples h i (by rw [List.length_drop] at hi; omega)
  simp [hzero, hsample, bitOf_peak hpeak] at hbit

/-- Data samples of the peak's width all give a 1 (R172). -/
theorem frameOf_eq_ones {samples : List Nat} (h : samples.length = 41) (hpeak : 1 ≤ peakOf samples)
    (hall : ∀ d ∈ samples.drop 1, d = peakOf samples) : frameOf samples = Vector.replicate 5 255 := by
  have hdata : samples.drop 1 = List.replicate 40 (peakOf samples) :=
    List.eq_replicate_iff.mpr ⟨by rw [List.length_drop, h], hall⟩
  have hbits : frameBitsOf samples = List.replicate 40 true := by
    rw [frameBitsOf, hdata, List.take_replicate, List.map_replicate, bitOf_peak hpeak]
    rfl
  refine Vector.ext fun i hi => ?_
  rw [frameOf_getElem, hbits, List.drop_replicate, List.take_replicate, min_eq_left (by omega), Vector.getElem_replicate]
  decide

/-- Settles O58: the peak is a data sample, so it is at least 1; where all are equal, each is the peak. -/
theorem allZeroFrameNeverDecodes : Obligations.AllZeroFrameNeverDecodes := by
  intro samples h hpos
  have hmem : peakOf samples ∈ samples.drop 1 := peakOf_mem (by omega)
  have hpeak : 1 ≤ peakOf samples := hpos _ (List.mem_of_mem_drop hmem)
  refine ⟨frameOf_ne_zero h hpeak, fun hall => ?_⟩
  have hframe := frameOf_eq_ones h hpeak (fun d hd => hall d hd _ hmem)
  refine ⟨hframe, (decodeSamples_checksum_iff samples).mpr ⟨h, ?_⟩, ?_⟩
  · rw [hframe]
    decide
  · exact congrArg checksumOf hframe

/-- The samples are the recorded part of the buffer, and nothing after it (R25). -/
theorem State.samples_congr_recorded {s s' : State} (hn : s.n = s'.n)
    (hbuf : ∀ i : Fin 100, i.val < s.n.toNat → s.buf[i] = s'.buf[i]) : s.samples = s'.samples := by
  have htake : s.buf.toList.take s.n.toNat = s'.buf.toList.take s.n.toNat := by
    refine List.ext_getElem (by simp) fun i hi _ => ?_
    obtain ⟨hin, h100⟩ : i < s.n.toNat ∧ i < 100 := by simpa using hi
    simpa using hbuf ⟨i, h100⟩ hin
  rw [State.samples, State.samples, htake, hn]

/-- An edge that ends a decode commits the decode of the samples (R160, R169). -/
theorem step_commits {s t : State} (hf : s.fsm = .decode) (hr : s.input.rst = false) (hstep : step s = .next t)
    (hidle : t.fsm = .idle) :
    t.result = (decodeSamples s.samples).result ∧ t.frame = (decodeSamples s.samples).frame ∧
    t.peak = BitVec.ofNat 16 (decodeSamples s.samples).peak ∧ t.csum = (decodeSamples s.samples).csum := by
  have hend := captureEndsAtOneEdge s t (by simp [hf]) hr hstep
  rw [if_pos hidle] at hend
  obtain ⟨-, -, -, -, ⟨-, hregs⟩ | ⟨⟨hack, -⟩ | ⟨hack, -⟩, -⟩⟩ := hend
  · exact hregs
  all_goals simp [hf] at hack

/-- Settles O59: both commits are the decode of the samples, which agree. -/
theorem commitDependsOnTheSamplesAlone : Obligations.CommitDependsOnTheSamplesAlone := by
  intro s s' t t' hf hf' hn hbuf hr hr' hstep hstep' hidle hidle'
  obtain ⟨hresult, hframe, hpeak, hcsum⟩ := step_commits hf hr hstep hidle
  obtain ⟨hresult', hframe', hpeak', hcsum'⟩ := step_commits hf' hr' hstep' hidle'
  have hsamples := State.samples_congr_recorded hn hbuf
  rw [hresult, hframe, hpeak, hcsum, hresult', hframe', hpeak', hcsum', hsamples]
  exact ⟨rfl, rfl, rfl, rfl⟩

end Sys2Proof.Machine
end

section
/-! What never goes wrong: no state is stuck (R203), and a frame marked OK is no bad frame (R200, R235). -/

namespace Sys2Proof.Machine

/-- Settles O23: the reset edge, a tick of a capture and a tick of the idle block each have a next state, whatever is
presented. -/
theorem everyStepAnswersANextState : Obligations.EveryStepAnswersANextState := by
  intro s
  obtain ⟨t, hstep, -⟩ := step_next s
  exact ⟨t, hstep⟩

/-- What OK says of the other result registers (R200). -/
theorem State.ResultMeans.of_ok {s : State} (h : s.ResultMeans) (hok : s.result = .ok) :
    s.n.toNat = 41 ∧ s.frame[4] = s.csum := by
  simpa only [State.ResultMeans, hok] using h

/-- Settles O40: OK means 41 samples and a fifth byte equal to CSUM_CALC, which is the sum of the other four. -/
theorem dataFrameHasItsChecksum : Obligations.DataFrameHasItsChecksum := by
  rintro s hinv ⟨-, hok⟩
  obtain ⟨hn, hbyte⟩ := hinv.resultMeans.of_ok hok
  have hsum : s.frame[4] = checksumOf s.frame := hbyte.trans hinv.csum
  exact ⟨hn, by rw [hsum, checksumOf_toNat]⟩

end Sys2Proof.Machine
end

section
/-! A reset edge (R230), and what STATUS reads in the tick after a start while idle (R237). -/

namespace Sys2Proof.Machine

/-- Settles O26: the edge is the reset edge on the state whose inputs are used up, and looks at no other input. -/
theorem resetEdgeSetsEveryElement : Obligations.ResetEdgeSetsEveryElement := step_reset

/-- A start with a reserved variant while idle, as a whole edge (R109). -/
theorem step_of_reserved_start {s : State} {w : BusWord} {hi : BitVec 29} {k : BitVec 2} (hf : s.fsm = .idle)
    (hr : s.input.rst = false) (hw : s.input.bus = some w) (hstart : decode w = .wrCtrlStartRsv hi k) :
    step s = .next ((s.consume.rejectStart k).respond 0 false) := by
  have hexec : exec (decode w) s.consume = .next ((s.consume.rejectStart k).respond 0 false) := by
    rw [hstart, exec, execWrCtrlStartRsv, State.ite_busy_of_idle (s := s.consume) hf]
  rw [step_of_exec hr hw hexec, blockStep_eq_ite, if_neg (not_not.mpr hf)]

/-- An edge with a read of STATUS answers STATUS of the pre-edge state (R101, R115). -/
theorem step_status_read {s t : State} {d : Word} (hr : s.input.rst = false)
    (hw : s.input.bus = some (BusWord.ofPorts false 0x04 d)) (hstep : step s = .next t) : t.busRdata = s.statusValue := by
  have hexec : exec (decode (BusWord.ofPorts false 0x04 d)) s.consume = .next (s.consume.respond s.statusValue false) := by
    rw [(readStatusAnswersItsFields d s).1]
    rfl
  obtain rfl := step_unique (step_of_exec hr hw hexec) hstep
  rw [blockStep_busRdata, State.respond_busRdata]

/-- STATUS.BUSY (R36). -/
theorem State.statusValue_busy (s : State) : s.statusValue.getLsbD 0 = s.busy :=
  (statusLayout_fields _ _ _ _ _ s.statusValue rfl).1

/-- STATUS.RESULT (R36). -/
theorem State.statusValue_result (s : State) : s.statusValue.extractLsb' 2 3 = s.result.code := by
  obtain ⟨-, -, hresult, -⟩ := statusLayout_fields _ _ _ _ _ s.statusValue rfl
  exact hresult

/-- A variant code that is not supported is reserved (R74). -/
theorem isReservedVariant_of_not_supported : ∀ k : BitVec 2, ¬(k = 0b00 ∨ k = 0b01) → isReservedVariant k = true := by
  decide

/-- Settles O25: the read answers STATUS of the state that the start has left, which is busy or holds UNSUPPORTED. -/
theorem statusAfterStartShowsIt : Obligations.StatusAfterStartShowsIt := by
  intro s l l' hi k d rest hf hp
  have hr : s.input.rst = false := by simp [State.input, hp]
  have hw : s.input.bus = some (BusWord.ofPorts true 0x00 (ctrlData hi k true)) := by simp [State.input, hp, ctrlData]
  have hread : (s.run 2).busRdata = (s.run 1).statusValue := by
    refine step_status_read (d := d) ?_ ?_ (s.run_next 1) <;> rw [State.run_input] <;> simp [State.inputAt, hp]
  rw [hread, State.statusValue_busy, State.statusValue_result]
  split_ifs with hk
  · have hstart : decode (BusWord.ofPorts true 0x00 (ctrlData hi k true)) = .wrCtrlStartA hi ∧ k = 0b00 ∨
        decode (BusWord.ofPorts true 0x00 (ctrlData hi k true)) = .wrCtrlStartB hi ∧ k = 0b01 := by
      rcases hk with rfl | rfl
      · exact .inl ⟨decodeOfEncodeIsTheTransaction (.wrCtrlStartA hi) rfl, rfl⟩
      · exact .inr ⟨decodeOfEncodeIsTheTransaction (.wrCtrlStartB hi) rfl, rfl⟩
    rw [s.run_one _ (step_of_supported_start hf hr hw hstart)]
    rfl
  · have hstart : decode (BusWord.ofPorts true 0x00 (ctrlData hi k true)) = .wrCtrlStartRsv hi k :=
      decodeOfEncodeIsTheTransaction (.wrCtrlStartRsv hi k) (isReservedVariant_of_not_supported k hk)
    rw [s.run_one _ (step_of_reserved_start hf hr hw hstart), State.respond_busy, State.busy_eq_false_iff]
    exact ⟨hf, rfl⟩

end Sys2Proof.Machine
end
